-- ==== Sys2Proof/Word.lean ====
section
/-! DEFINITION. The fixed-width words of the block (rules R12, R49, R58, R59, R67): names for bit vectors, nothing
else. Levels, times and factors are exact rationals (rule R11) and are written `ℚ`; counters are unbounded naturals
(rule R12) and are written `Nat`. -/

namespace Sys2Proof

/-- A byte of a MIDI message, or the bank id of a completion (`u8`, rules R49, R58). -/
abbrev Byte := BitVec 8

/-- A half byte: the kind and the channel of a status byte, or the control nibble of a wire word (R59, R67). -/
abbrev Nibble := BitVec 4

/-- A 12-bit DAC code (`u12`, rules R12, R49). -/
abbrev DacCode := BitVec 12

/-- A 16-bit wire word (rule R67). -/
abbrev WireWord := BitVec 16

/-- A 26-bit event word `tag << 24 | payload` (rule R58). -/
abbrev EventWord := BitVec 26

end Sys2Proof
end

