-- ==== Sys2Proof/Config.lean ====
section
/-! DEFINITION. What an implementation fixes: the closed enumerations the parameters are made of, the parameter set
of rule R9 as one record of plain data, and the one free value. The parameters are arguments of the model (rule R17):
a state of the machine carries the set its block was built with (log entry 1), so a statement about every state is a
statement about every parameter set. The reading of the maps, the derived parameters and the reference configuration
TC are in Machine/Params.lean; the construction checks are in Machine/Construct.lean. -/

namespace Sys2Proof

/-- The parameter identifiers of the control-change interface, a closed enumeration (rule R22). -/
inductive ParamId where
  | vcaAttack | vcaDecay | vcaSustain | vcaRelease
  | vcfAttack | vcfDecay | vcfSustain | vcfRelease
  | vcaVelSens | vcfVelSens | kbdTracking | envAmount
  | cutoff | resonance
  | waveform | octave | detune | sync | filterOrder
deriving DecidableEq, Repr

/-- The logical outputs (rule R65): the four this block emits to, and the mixer inputs that `ADDR_MAP` may also
hold and that no rule reads (I16 of the implementation-defined list). -/
inductive LogicalOutput where
  | vcoAPitch | vcoBPitch | vcaLevel | vcfCutoff
  | mixerInput (n : Nat)
deriving DecidableEq, Repr

/-- The gain half of the sub-channel/gain selector (rule R66). -/
inductive GainMode where
  | gain1x | gain2x
deriving DecidableEq, Repr, Inhabited

/-- A physical destination (bank, subchannel, gainMode) (rules R14, R40). `sub` is a natural so that a parameter set
with a subchannel outside 0 and 1, the defect `E_CFG_ADDR_MAP`, can be written down and rejected. -/
structure Dest where
  bank : Nat
  sub : Nat
  gain : GainMode
deriving DecidableEq, Repr, Inhabited

/-- The parameter `CTRL`: the control nibble for each subchannel and gain mode, total (rules R9, R67). -/
structure CtrlMap where
  sub0Gain1x : Nibble
  sub0Gain2x : Nibble
  sub1Gain1x : Nibble
  sub1Gain2x : Nibble
deriving DecidableEq, Repr

/-- The configuration registers both envelope domains have (rules R18, R19). -/
structure EnvConfig where
  attackTimeMs : ℚ
  decayTimeMs : ℚ
  releaseTimeMs : ℚ
  sustainLevel : ℚ
  velocitySensitivity : ℚ
deriving DecidableEq, Repr

/-- The configuration registers of the VCF domain: the shared five and the VCF-only two (rules R18, R19, R20). -/
structure VcfConfig extends EnvConfig where
  keyboardTrackingAmount : ℚ
  envelopeAmount : ℚ
deriving DecidableEq, Repr

/-- The global parameters (rule R23). -/
structure GlobalParams where
  vcfCutoff : ℚ
  vcfResonance : ℚ
deriving DecidableEq, Repr

/-- The parameter `RESET_CONFIG`: the reset value of every configuration register whose reset value is open
(rules R9, R138). -/
structure ResetConfig where
  cfgVca : EnvConfig
  cfgVcf : VcfConfig
  glob : GlobalParams
deriving DecidableEq, Repr

/-- The parameter set of rule R9. A set may be defective; `Machine.defect` says whether it is, and with which code.
`TICK_PERIOD_MS` is derived from `tUs` and `k` and is no field (decision D3). The partial maps are lists of pairs,
the first pair of a key counting (log entry 2). Table entries are naturals, so that an entry above 4095, the defect
`E_CFG_TABLE`, can be written down and rejected. -/
structure Params where
  /-- `T_US`: the hardware tick period in µs. -/
  tUs : ℚ
  /-- `K`: phases per slow cycle. -/
  k : Nat
  /-- `MAX_TIME`: full scale of a timed parameter, ms. -/
  maxTime : ℚ
  /-- `MAX_ENV_AMOUNT`, in VCF code units. -/
  maxEnvAmount : ℚ
  /-- `MAX_CUTOFF`, in VCF code units. -/
  maxCutoff : ℚ
  /-- `MAX_RESONANCE`. -/
  maxResonance : ℚ
  /-- `MAX_TRACKING_RANGE`, in VCF code units; any rational. -/
  maxTrackingRange : ℚ
  /-- `VCA_FULL_SCALE`: the DAC code for VCA amplitude 1. -/
  vcaFullScale : Nat
  /-- `N_DRUM`: the number of drum voices. -/
  nDrum : Nat
  /-- `DRUM_CHANNEL`, 0..15. -/
  drumChannel : Nat
  /-- `DRUM_NOTE_MAP`: data1 to drum voice, partial. -/
  drumNoteMap : List (Byte × Nat)
  /-- `P`: the drum pulse length in hardware ticks. -/
  drumPulse : Nat
  /-- `TRIG_ACTIVE_HIGH`: whether an active trigger line is at logic level 1. -/
  trigActiveHigh : Bool
  /-- `CC_MAP`: CC number to parameter id, partial. -/
  ccMap : List (Byte × ParamId)
  /-- `NOTE_ON_VEL0_IS_OFF`: whether a NOTE_ON with velocity 0 acts as NOTE_OFF. -/
  noteOnVel0IsOff : Bool
  /-- `TABLE_A`: the note table of oscillator A. -/
  tableA : List Nat
  /-- `TABLE_B`: the note table of oscillator B. -/
  tableB : List Nat
  /-- `NBANKS`: the number of physical banks. -/
  nBanks : Nat
  /-- `ADDR_MAP`: logical output to physical destination. -/
  addrMap : List (LogicalOutput × Dest)
  /-- `CTRL`: the control nibbles. -/
  ctrl : CtrlMap
  /-- `RESET_CONFIG`. -/
  resetConfig : ResetConfig
  /-- `FAULT_CTR_WIDTH`: the width of the overlap fault counter. -/
  faultCtrWidth : Nat
deriving DecidableEq, Repr

/-- The configuration defects of rule R121 (codes 16 to 19). -/
inductive Defect where
  /-- `E_CFG_ZERO_TIME`: a time in `RESET_CONFIG` is at most 0. -/
  | zeroTime
  /-- `E_CFG_ADDR_MAP`: `ADDR_MAP` incomplete, a bank outside 0..NBANKS−1, or a subchannel outside 0 and 1. -/
  | addrMap
  /-- `E_CFG_TABLE`: a note table breaks rule R43 or has an entry above 4095. -/
  | table
  /-- `E_CFG_PARAM`: any other constraint of rule R9 is broken. -/
  | param
deriving DecidableEq, Repr

/-- FREE VALUE (log entry 3, DESIGN CHOICE): the destination of a logical output that `ADDR_MAP` has no entry for.
Rule R72 says this happens only with the defect `E_CFG_ADDR_MAP`, for which no block exists; the definition has no
body, so nothing can be proved of it, and no block that rule R123 builds ever reads it. -/
opaque Config.missingDest : Dest

end Sys2Proof
end

