-- ==== Sys2Proof/Machine/Params.lean ====
section
/-! DEFINITION. Reading the parameter set: the maps and tables of rules R40 to R44 and R65 to R67, the derived
parameter `TICK_PERIOD_MS` (decision D3), the default control nibble (decision D26), the spec's own numbers for its
enumerations, and the reference test configuration TC (decision D45). -/

namespace Sys2Proof.Machine

/-- `TICK_PERIOD_MS = K·T_US/1000`: the time between two steps of one envelope (rules R9, R82; decision D3). -/
def tickPeriodMs (p : Params) : ℚ := (p.k : ℚ) * p.tUs / 1000

/-- `CC_MAP(cc)` (rules R40, R61). -/
def ccParam (p : Params) (cc : Byte) : Option ParamId := p.ccMap.lookup cc

/-- `DRUM_NOTE_MAP(n)` (rules R40, R61). -/
def drumVoice (p : Params) (n : Byte) : Option Nat := p.drumNoteMap.lookup n

/-- `resolve(out)`: the physical destination of a logical output (rule R72). -/
def resolve (p : Params) (out : LogicalOutput) : Dest := (p.addrMap.lookup out).getD Config.missingDest

/-- `MemRead(TABLE, i)`: a read of a read-only table (rules R13, R42); an index with no entry reads 0 (rule R41). -/
def memRead (table : List Nat) (i : Nat) : Nat := table.getD i 0

/-- `Lookup(TABLE, n)`: the note-to-DAC lookup (rules R44, R114). -/
def lookupNote (table : List Nat) (n : Byte) : Nat := if n.toNat ≤ 127 then memRead table n.toNat else 0

/-- `CTRL(sub, gain)`: the control nibble as the parameter gives it (rules R9, R67). -/
def ctrlNibble (c : CtrlMap) (sub : Nat) (gain : GainMode) : Nibble :=
  if sub % 2 = 0 then
    match gain with
    | .gain1x => c.sub0Gain1x
    | .gain2x => c.sub0Gain2x
  else
    match gain with
    | .gain1x => c.sub1Gain1x
    | .gain2x => c.sub1Gain2x

/-- The default `CTRL` layout of rule R67: bit 3 the channel, bit 2 zero, bit 1 set for 1x gain, bit 0 set. -/
def ctrlDefaultNibble (sub : Nat) (gain : GainMode) : Nibble :=
  (BitVec.ofNat 4 (sub % 2) <<< 3) ||| ((if gain = .gain1x then 1#4 else 0#4) <<< 1) ||| 1#4

/-- The default value of the parameter `CTRL` (rule R67, decision D26). -/
def ctrlDefault : CtrlMap :=
  { sub0Gain1x := ctrlDefaultNibble 0 .gain1x
    sub0Gain2x := ctrlDefaultNibble 0 .gain2x
    sub1Gain1x := ctrlDefaultNibble 1 .gain1x
    sub1Gain2x := ctrlDefaultNibble 1 .gain2x }

/-- The number rule R22 gives each parameter identifier, used only inside the spec. -/
def paramNumber : ParamId → Nat
  | .vcaAttack => 0 | .vcaDecay => 1 | .vcaSustain => 2 | .vcaRelease => 3
  | .vcfAttack => 4 | .vcfDecay => 5 | .vcfSustain => 6 | .vcfRelease => 7
  | .vcaVelSens => 8 | .vcfVelSens => 9 | .kbdTracking => 10 | .envAmount => 11
  | .cutoff => 12 | .resonance => 13
  | .waveform => 14 | .octave => 15 | .detune => 16 | .sync => 17 | .filterOrder => 18

/-- The code rule R65 gives each of the four logical outputs the block emits to; a mixer input has none. -/
def outputCode : LogicalOutput → Option Nat
  | .vcoAPitch => some 0
  | .vcoBPitch => some 1
  | .vcaLevel => some 2
  | .vcfCutoff => some 3
  | .mixerInput _ => none

/-- The code rule R121 gives each configuration defect (decision D35). -/
def defectCode : Defect → Nat
  | .zeroTime => 16
  | .addrMap => 17
  | .table => 18
  | .param => 19

/-- A note table of 128 entries that is `f` on the calibrated range 36..71 and 0 elsewhere (rule R43). -/
def noteTable (f : Nat → Nat) : List Nat :=
  (List.range 128).map fun n => if 36 ≤ n ∧ n ≤ 71 then f n else 0

/-- The five registers TC resets both domains to: attack 10, decay 20, release 10, sustain 1/2, sensitivity 0. -/
def tcEnvConfig : EnvConfig :=
  { attackTimeMs := 10, decayTimeMs := 20, releaseTimeMs := 10, sustainLevel := 1 / 2, velocitySensitivity := 0 }

/-- The reference test configuration TC (decision D45), the parameter set of `State.reset` (log entry 1). -/
def tc : Params :=
  { tUs := 50
    k := 20
    maxTime := 127
    maxEnvAmount := 4064
    maxCutoff := 4064
    maxResonance := 4064
    maxTrackingRange := 640
    vcaFullScale := 4095
    nDrum := 4
    drumChannel := 9
    drumNoteMap := [(36#8, 0), (38#8, 1), (42#8, 2), (46#8, 3)]
    drumPulse := 20
    trigActiveHigh := true
    ccMap :=
      [(20#8, .vcaAttack), (21#8, .vcaDecay), (22#8, .vcaSustain), (23#8, .vcaRelease),
       (24#8, .vcfAttack), (25#8, .vcfDecay), (26#8, .vcfSustain), (27#8, .vcfRelease),
       (28#8, .vcaVelSens), (29#8, .vcfVelSens), (30#8, .kbdTracking), (31#8, .envAmount),
       (74#8, .cutoff), (71#8, .resonance),
       (102#8, .waveform), (103#8, .octave), (104#8, .detune), (105#8, .sync), (106#8, .filterOrder)]
    noteOnVel0IsOff := false
    tableA := noteTable fun n => 100 * (n - 35)
    tableB := noteTable fun n => 100 * (n - 35) + 5
    nBanks := 2
    addrMap :=
      [(.vcoAPitch, ⟨0, 0, .gain1x⟩), (.vcoBPitch, ⟨0, 1, .gain1x⟩),
       (.vcaLevel, ⟨1, 0, .gain1x⟩), (.vcfCutoff, ⟨1, 1, .gain1x⟩)]
    ctrl := ctrlDefault
    resetConfig :=
      { cfgVca := tcEnvConfig
        cfgVcf := { tcEnvConfig with keyboardTrackingAmount := 0, envelopeAmount := 2048 }
        glob := { vcfCutoff := 1024, vcfResonance := 0 } }
    faultCtrWidth := 32 }

end Sys2Proof.Machine
end

