-- ==== Sys2Proof/Syntax.lean ====
section
/-! DEFINITION. The decoded inbound events: one constructor per row of spec/opcode_table.json, in the table's order,
each holding every field of its row that the spec says the message carries (rules R58, R59, R62). The fields a rule
calls ignored are kept, so that encoding loses no bit of a message; the payload bits that rule R58 has the decoder
ignore (all of TICK's and RESET's, bits 23..8 of DONE) are no field. -/

namespace Sys2Proof

/-- A decoded inbound event. -/
inductive Instr where
  /-- DRUM_NOTE_ON, decode row 1 (rule R104): `ch` is the drum channel, `vel` is not read. -/
  | drumNoteOn (ch : Nibble) (note vel : Byte)
  /-- NOTE_ON_VEL0_OFF, decode row 2 (rule R103): a NOTE_ON with velocity 0 where `NOTE_ON_VEL0_IS_OFF` holds. -/
  | noteOnVel0Off (ch : Nibble) (note : Byte)
  /-- NOTE_ON, decode row 3 (rule R102). -/
  | noteOn (ch : Nibble) (note vel : Byte)
  /-- NOTE_OFF, decode row 4 (rule R103): no field is read. -/
  | noteOff (ch : Nibble) (note vel : Byte)
  /-- CONTROL_CHANGE, decode row 5 (rule R105), for a CC number that no `CC_*` row refines. -/
  | controlChange (ch : Nibble) (cc val : Byte)
  /-- CC_VCA_ATTACK: a CONTROL_CHANGE whose `CC_MAP(cc)` is VCA_ATTACK (rule R106); the rows below likewise. -/
  | ccVcaAttack (ch : Nibble) (cc val : Byte)
  /-- CC_VCA_DECAY (rule R106). -/
  | ccVcaDecay (ch : Nibble) (cc val : Byte)
  /-- CC_VCA_SUSTAIN (rule R107). -/
  | ccVcaSustain (ch : Nibble) (cc val : Byte)
  /-- CC_VCA_RELEASE (rule R106). -/
  | ccVcaRelease (ch : Nibble) (cc val : Byte)
  /-- CC_VCF_ATTACK (rule R106). -/
  | ccVcfAttack (ch : Nibble) (cc val : Byte)
  /-- CC_VCF_DECAY (rule R106). -/
  | ccVcfDecay (ch : Nibble) (cc val : Byte)
  /-- CC_VCF_SUSTAIN (rule R107). -/
  | ccVcfSustain (ch : Nibble) (cc val : Byte)
  /-- CC_VCF_RELEASE (rule R106). -/
  | ccVcfRelease (ch : Nibble) (cc val : Byte)
  /-- CC_VCA_VEL_SENS (rule R107). -/
  | ccVcaVelSens (ch : Nibble) (cc val : Byte)
  /-- CC_VCF_VEL_SENS (rule R107). -/
  | ccVcfVelSens (ch : Nibble) (cc val : Byte)
  /-- CC_KBD_TRACKING (rule R107). -/
  | ccKbdTracking (ch : Nibble) (cc val : Byte)
  /-- CC_ENV_AMOUNT (rule R108). -/
  | ccEnvAmount (ch : Nibble) (cc val : Byte)
  /-- CC_CUTOFF (rule R108). -/
  | ccCutoff (ch : Nibble) (cc val : Byte)
  /-- CC_RESONANCE (rule R108). -/
  | ccResonance (ch : Nibble) (cc val : Byte)
  /-- CC_WAVEFORM (rule R109). -/
  | ccWaveform (ch : Nibble) (cc val : Byte)
  /-- CC_OCTAVE (rule R109). -/
  | ccOctave (ch : Nibble) (cc val : Byte)
  /-- CC_DETUNE (rule R109). -/
  | ccDetune (ch : Nibble) (cc val : Byte)
  /-- CC_SYNC (rule R109). -/
  | ccSync (ch : Nibble) (cc val : Byte)
  /-- CC_FILTER_ORDER (rule R109). -/
  | ccFilterOrder (ch : Nibble) (cc val : Byte)
  /-- IGNORED, decode row 6 (rule R110): any other kind. -/
  | ignored (kind ch : Nibble) (d1 d2 : Byte)
  /-- TICK (rule R111). -/
  | tick
  /-- DONE (rule R77): the bank id the serial driver reports. -/
  | done (b : Byte)
  /-- RESET (rule R138). -/
  | reset
deriving DecidableEq, Repr

end Sys2Proof
end

