-- ==== Sys2Proof/WellFormed.lean ====
section
/-! DEFINITION. Which instructions are the reading of some event word under a parameter set: the first-match decode
table of rule R62, and the refinement of CONTROL_CHANGE by the parameter its CC number is mapped to. -/

namespace Sys2Proof

/-- The CC number `cc` is mapped to the parameter `id` (rules R61, R105). -/
def Instr.mappedTo (p : Params) (cc : Byte) (id : ParamId) : Bool := decide (Machine.ccParam p cc = some id)

/-- The instruction is what the decode table gives for some event word under `p`: row 1 is on the drum channel; row
2 is off it, with `NOTE_ON_VEL0_IS_OFF`; row 3 is what neither takes; a `CC_*` row has its own parameter's CC
number, and CONTROL_CHANGE an unmapped one; row 6 has a kind other than 8, 9 and 11 (rules R62, R63). -/
def Instr.wellFormed (p : Params) : Instr → Bool
  | .drumNoteOn ch _ _ => decide (ch.toNat = p.drumChannel)
  | .noteOnVel0Off ch _ => decide (ch.toNat ≠ p.drumChannel) && p.noteOnVel0IsOff
  | .noteOn ch _ vel => decide (ch.toNat ≠ p.drumChannel) && !(p.noteOnVel0IsOff && decide (vel = 0#8))
  | .noteOff _ _ _ => true
  | .controlChange _ cc _ => decide (Machine.ccParam p cc = none)
  | .ccVcaAttack _ cc _ => Instr.mappedTo p cc .vcaAttack
  | .ccVcaDecay _ cc _ => Instr.mappedTo p cc .vcaDecay
  | .ccVcaSustain _ cc _ => Instr.mappedTo p cc .vcaSustain
  | .ccVcaRelease _ cc _ => Instr.mappedTo p cc .vcaRelease
  | .ccVcfAttack _ cc _ => Instr.mappedTo p cc .vcfAttack
  | .ccVcfDecay _ cc _ => Instr.mappedTo p cc .vcfDecay
  | .ccVcfSustain _ cc _ => Instr.mappedTo p cc .vcfSustain
  | .ccVcfRelease _ cc _ => Instr.mappedTo p cc .vcfRelease
  | .ccVcaVelSens _ cc _ => Instr.mappedTo p cc .vcaVelSens
  | .ccVcfVelSens _ cc _ => Instr.mappedTo p cc .vcfVelSens
  | .ccKbdTracking _ cc _ => Instr.mappedTo p cc .kbdTracking
  | .ccEnvAmount _ cc _ => Instr.mappedTo p cc .envAmount
  | .ccCutoff _ cc _ => Instr.mappedTo p cc .cutoff
  | .ccResonance _ cc _ => Instr.mappedTo p cc .resonance
  | .ccWaveform _ cc _ => Instr.mappedTo p cc .waveform
  | .ccOctave _ cc _ => Instr.mappedTo p cc .octave
  | .ccDetune _ cc _ => Instr.mappedTo p cc .detune
  | .ccSync _ cc _ => Instr.mappedTo p cc .sync
  | .ccFilterOrder _ cc _ => Instr.mappedTo p cc .filterOrder
  | .ignored kind _ _ _ => decide (kind ≠ 8#4) && decide (kind ≠ 9#4) && decide (kind ≠ 11#4)
  | .tick => true
  | .done _ => true
  | .reset => true

end Sys2Proof
end

