-- ==== Sys2Proof/Decode.lean ====
section
/-! DEFINITION. Decoding of event words (rules R45, R58 to R63) and, after it, encoding. Every 26-bit word decodes
(rule R62: the decode is total); a number that is no 26-bit word is rejected by name. -/

namespace Sys2Proof

/-- Why a number is not decoded. -/
inductive DecodeError where
  /-- The number has a bit above bit 25, so it is no event word of rule R58. -/
  | notAnEventWord
deriving DecidableEq, Repr

/-- The tag `e[25:24]` (rule R58). -/
def eventTag (e : EventWord) : BitVec 2 := e.extractLsb' 24 2

/-- The kind `m[23:20]` (rule R59). -/
def eventKind (e : EventWord) : Nibble := e.extractLsb' 20 4

/-- The channel `m[19:16]` (rule R59). -/
def eventChannel (e : EventWord) : Nibble := e.extractLsb' 16 4

/-- The first data byte `m[15:8]` (rule R59). -/
def eventData1 (e : EventWord) : Byte := e.extractLsb' 8 8

/-- The second data byte `m[7:0]`, and the bank id of a DONE (rules R58, R59). -/
def eventData2 (e : EventWord) : Byte := e.extractLsb' 0 8

/-- The `CC_*` row of a parameter identifier (rule R22). -/
def ccInstr (id : ParamId) (ch : Nibble) (cc val : Byte) : Instr :=
  match id with
  | .vcaAttack => .ccVcaAttack ch cc val
  | .vcaDecay => .ccVcaDecay ch cc val
  | .vcaSustain => .ccVcaSustain ch cc val
  | .vcaRelease => .ccVcaRelease ch cc val
  | .vcfAttack => .ccVcfAttack ch cc val
  | .vcfDecay => .ccVcfDecay ch cc val
  | .vcfSustain => .ccVcfSustain ch cc val
  | .vcfRelease => .ccVcfRelease ch cc val
  | .vcaVelSens => .ccVcaVelSens ch cc val
  | .vcfVelSens => .ccVcfVelSens ch cc val
  | .kbdTracking => .ccKbdTracking ch cc val
  | .envAmount => .ccEnvAmount ch cc val
  | .cutoff => .ccCutoff ch cc val
  | .resonance => .ccResonance ch cc val
  | .waveform => .ccWaveform ch cc val
  | .octave => .ccOctave ch cc val
  | .detune => .ccDetune ch cc val
  | .sync => .ccSync ch cc val
  | .filterOrder => .ccFilterOrder ch cc val

/-- Decode row 5 and the rows that refine it (rules R62, R105). -/
def decodeControlChange (p : Params) (ch : Nibble) (cc val : Byte) : Instr :=
  match Machine.ccParam p cc with
  | some id => ccInstr id ch cc val
  | none => .controlChange ch cc val

/-- The decode table of a `DISPATCH`, its rows tried top to bottom (rule R62): kind 9 is NOTE_ON (0x90), kind 8
NOTE_OFF (0x80) and kind 11 CONTROL_CHANGE (0xB0) (rule R60). -/
def decodeDispatch (p : Params) (kind ch : Nibble) (d1 d2 : Byte) : Instr :=
  if kind = 9#4 ∧ ch.toNat = p.drumChannel then .drumNoteOn ch d1 d2
  else if kind = 9#4 ∧ p.noteOnVel0IsOff = true ∧ d2 = 0#8 then .noteOnVel0Off ch d1
  else if kind = 9#4 then .noteOn ch d1 d2
  else if kind = 8#4 then .noteOff ch d1 d2
  else if kind = 11#4 then decodeControlChange p ch d1 d2
  else .ignored kind ch d1 d2

/-- The instruction an event word stands for under a parameter set (rules R58, R62). -/
def decode (p : Params) (e : EventWord) : Instr :=
  if eventTag e = 0#2 then decodeDispatch p (eventKind e) (eventChannel e) (eventData1 e) (eventData2 e)
  else if eventTag e = 1#2 then .tick
  else if eventTag e = 2#2 then .done (eventData2 e)
  else .reset

/-- Decoding of any number: it is an event word, or it is rejected by name. -/
def decodeNumber (p : Params) (n : Nat) : Except DecodeError Instr :=
  if n < 2 ^ 26 then .ok (decode p (BitVec.ofNat 26 n)) else .error .notAnEventWord

/-- The instruction that the decoder reads from the event word whose low `nbits` bits are those of `w` and whose
other bits are 0, under the reference configuration TC (log entry 1). -/
def decodeTableWord (nbits w : Nat) : Option Instr :=
  match decodeNumber Machine.tc (w % 2 ^ nbits) with
  | .ok i => some i
  | .error _ => none

/-- The event word of a `DISPATCH` (rules R58, R59). -/
def dispatchWord (kind ch : Nibble) (d1 d2 : Byte) : EventWord := 0#2 ++ kind ++ ch ++ d1 ++ d2

/-- The event word `DISPATCH(s, d1, d2)` of three bytes in message order (rules R45, R58). -/
def messageWord (s d1 d2 : Byte) : EventWord := 0#2 ++ s ++ d1 ++ d2

/-- The event word of `TICK` (rule R58). -/
def tickWord : EventWord := 1#2 ++ 0#24

/-- The event word of `DONE(b)` (rule R58). -/
def doneWord (b : Byte) : EventWord := 2#2 ++ 0#16 ++ b

/-- The event word of `RESET` (rule R58). -/
def resetWord : EventWord := 3#2 ++ 0#24

/-- The word of an instruction, written from the same tables (rules R58, R59, R62). -/
def encode : Instr → EventWord
  | .drumNoteOn ch note vel => dispatchWord 9#4 ch note vel
  | .noteOnVel0Off ch note => dispatchWord 9#4 ch note 0#8
  | .noteOn ch note vel => dispatchWord 9#4 ch note vel
  | .noteOff ch note vel => dispatchWord 8#4 ch note vel
  | .controlChange ch cc val => dispatchWord 11#4 ch cc val
  | .ccVcaAttack ch cc val => dispatchWord 11#4 ch cc val
  | .ccVcaDecay ch cc val => dispatchWord 11#4 ch cc val
  | .ccVcaSustain ch cc val => dispatchWord 11#4 ch cc val
  | .ccVcaRelease ch cc val => dispatchWord 11#4 ch cc val
  | .ccVcfAttack ch cc val => dispatchWord 11#4 ch cc val
  | .ccVcfDecay ch cc val => dispatchWord 11#4 ch cc val
  | .ccVcfSustain ch cc val => dispatchWord 11#4 ch cc val
  | .ccVcfRelease ch cc val => dispatchWord 11#4 ch cc val
  | .ccVcaVelSens ch cc val => dispatchWord 11#4 ch cc val
  | .ccVcfVelSens ch cc val => dispatchWord 11#4 ch cc val
  | .ccKbdTracking ch cc val => dispatchWord 11#4 ch cc val
  | .ccEnvAmount ch cc val => dispatchWord 11#4 ch cc val
  | .ccCutoff ch cc val => dispatchWord 11#4 ch cc val
  | .ccResonance ch cc val => dispatchWord 11#4 ch cc val
  | .ccWaveform ch cc val => dispatchWord 11#4 ch cc val
  | .ccOctave ch cc val => dispatchWord 11#4 ch cc val
  | .ccDetune ch cc val => dispatchWord 11#4 ch cc val
  | .ccSync ch cc val => dispatchWord 11#4 ch cc val
  | .ccFilterOrder ch cc val => dispatchWord 11#4 ch cc val
  | .ignored kind ch d1 d2 => dispatchWord kind ch d1 d2
  | .tick => tickWord
  | .done b => doneWord b
  | .reset => resetWord

end Sys2Proof
end

