-- ==== Sys2Proof/Machine/Block.lean ====
section
/-! DEFINITION. The block's state record of rule R17, field for field, and the reset state that rule R138 loads into
it. Machine/State.lean adds what the model itself needs around it. -/

namespace Sys2Proof.Machine

/-- `EnvState` (rule R25). Sustain is no state: it is the plateau in which DECAY stays. -/
inductive EnvState where
  | idle | attack | decay | release
deriving DecidableEq, Repr

/-- The level of a drum trigger line (rule R32). -/
inductive TrigLevel where
  | idleLvl | activeLvl
deriving DecidableEq, Repr

/-- The auxiliary parameters, each a natural in 0..127 (rule R24). -/
structure AuxParams where
  waveform : Nat
  octave : Nat
  detune : Nat
  sync : Nat
  filterOrder : Nat
deriving DecidableEq, Repr

/-- The VCA envelope runtime (rule R26). -/
structure VcaRuntime where
  state : EnvState
  currentLevel : ℚ
  targetLevel : ℚ
  perTickDelta : ℚ
deriving DecidableEq, Repr

/-- The VCF envelope runtime (rule R27). -/
structure VcfRuntime where
  state : EnvState
  currentLevel : ℚ
  targetLevel : ℚ
  perTickDelta : ℚ
  elapsedTicks : Nat
  ticksToTarget : Nat
  keyboardShift : ℚ
deriving DecidableEq, Repr

/-- The last non-drum NOTE_ON (rule R30). -/
structure MidiNoteState where
  note : Byte
  velocity : Byte
deriving DecidableEq, Repr

/-- The block's state record (rule R17). `cfg[VCA]` and `cfg[VCF]` are the fields `cfgVca` and `cfgVcf`. -/
structure Block where
  /-- `cfg[VCA]` (rules R18, R19). -/
  cfgVca : EnvConfig
  /-- `cfg[VCF]` (rules R18, R19, R20). -/
  cfgVcf : VcfConfig
  /-- `glob` (rule R23). -/
  glob : GlobalParams
  /-- `aux` (rule R24). -/
  aux : AuxParams
  /-- `vca` (rule R26). -/
  vca : VcaRuntime
  /-- `vcf` (rule R27). -/
  vcf : VcfRuntime
  /-- `midi` (rule R30). -/
  midi : MidiNoteState
  /-- `drumCount[v]`, one countdown per drum voice (rule R31). -/
  drumCount : List Nat
  /-- `trig[v]`, one line level per drum voice (rule R32). -/
  trig : List TrigLevel
  /-- The phase counter (rule R34). -/
  p : Nat
  /-- The transport gate's busy flag (rule R35). -/
  busy : Bool
  /-- The asserted bank-select line, if any (rule R36). -/
  bankSel : Option Nat
  /-- The counter of refused writes (rule R37). -/
  overlapFaults : Nat
deriving DecidableEq, Repr

/-- The code rule R25 gives each envelope state. -/
def envStateCode : EnvState → Nat
  | .idle => 0
  | .attack => 1
  | .decay => 2
  | .release => 3

/-- The reset value of `vca` (rules R26, R138). -/
def vcaReset : VcaRuntime := { state := .idle, currentLevel := 0, targetLevel := 0, perTickDelta := 0 }

/-- The reset value of `vcf` for a reset cutoff (rules R27, R138). -/
def vcfReset (cutoff : ℚ) : VcfRuntime :=
  { state := .idle, currentLevel := cutoff, targetLevel := cutoff, perTickDelta := 0
    elapsedTicks := 0, ticksToTarget := 1, keyboardShift := 0 }

/-- The reset state of a block with the given parameters: the table of rule R138. -/
def blockReset (p : Params) : Block :=
  { cfgVca := p.resetConfig.cfgVca
    cfgVcf := p.resetConfig.cfgVcf
    glob := p.resetConfig.glob
    aux := { waveform := 0, octave := 0, detune := 0, sync := 0, filterOrder := 0 }
    vca := vcaReset
    vcf := vcfReset p.resetConfig.glob.vcfCutoff
    midi := { note := 0#8, velocity := 0#8 }
    drumCount := List.replicate p.nDrum 0
    trig := List.replicate p.nDrum .idleLvl
    p := 0
    busy := false
    bankSel := none
    overlapFaults := 0 }

end Sys2Proof.Machine
end

