-- ==== Sys2Proof/Machine/State.lean ====
section
/-! DEFINITION. The machine's state as plain data, the reasons it can stop, its named updates, and the state right
after reset. The block has no byte-addressed memory (rules R40, R48), so State holds none. -/

namespace Sys2Proof.Machine

/-- An outbound event of the trace (rules R7, R68, R69). -/
inductive OutEvent where
  /-- `Transmit(bank, word)`: the request to send one wire word to the selected bank. -/
  | transmit (bank : Nat) (word : WireWord)
  /-- `SetTrigger(v, level)`: the new level of drum voice `v`'s trigger line. -/
  | setTrigger (voice : Nat) (level : TrigLevel)
deriving DecidableEq, Repr

/-- The machine: the block's record of rule R17 (all of `Block`'s fields), and three fields of the model's own that
rule R17 keeps apart from the block's state (log entry 1). -/
structure State extends Block where
  /-- The parameter set the block was built with (rule R9): fixed for its life, written by nothing (rule R42). -/
  params : Params
  /-- The events the environment has still to present, next first (rules R8, R52). -/
  inbox : List EventWord
  /-- The outbound trace so far, oldest first (rules R7, R8). -/
  trace : List OutEvent
deriving DecidableEq, Repr

/-- Why the machine stops. No inbound event stops it (rule R8: the block never stops by itself); the run-time fault
`OVERLAP` is counted and the event goes on (rule R122), so it is no constructor here. -/
inductive Fault where
  /-- Raised by `step` alone, on a state whose parameter set is defective: rules R10 and R123 say that no block exists
  to run. Safe: the hardware has no such state. -/
  | configDefect (d : Defect)
deriving DecidableEq, Repr

/-- Why the machine has no meaning for an instruction. -/
inductive Refusal where
  /-- Raised by an arm of `exec` whose instruction has no meaning yet; no arm does so. Safe: a refusal claims nothing. -/
  | notModelled (mnemonic : String)
deriving DecidableEq, Repr

/-- What one event answers. -/
abbrev Result := Host.Outcome State Fault Refusal

/-- Write `cfg[VCA]`. -/
def State.setCfgVca (s : State) (c : EnvConfig) : State := { s with cfgVca := c }

/-- Write `cfg[VCF]`. -/
def State.setCfgVcf (s : State) (c : VcfConfig) : State := { s with cfgVcf := c }

/-- Write `glob`. -/
def State.setGlob (s : State) (g : GlobalParams) : State := { s with glob := g }

/-- Write `aux`. -/
def State.setAux (s : State) (a : AuxParams) : State := { s with aux := a }

/-- Write `vca`. -/
def State.setVca (s : State) (r : VcaRuntime) : State := { s with vca := r }

/-- Write `vcf`. -/
def State.setVcf (s : State) (r : VcfRuntime) : State := { s with vcf := r }

/-- Write `midi`. -/
def State.setMidi (s : State) (m : MidiNoteState) : State := { s with midi := m }

/-- Write `drumCount[v]`. -/
def State.setDrumCount (s : State) (v n : Nat) : State := { s with drumCount := s.drumCount.set v n }

/-- Write `trig[v]`. -/
def State.setTrig (s : State) (v : Nat) (l : TrigLevel) : State := { s with trig := s.trig.set v l }

/-- Write the phase counter. -/
def State.setPhase (s : State) (p : Nat) : State := { s with p := p }

/-- Write `busy` and `bankSel` together. -/
def State.setGate (s : State) (busy : Bool) (sel : Option Nat) : State := { s with busy := busy, bankSel := sel }

/-- Write the fault counter. -/
def State.setFaults (s : State) (n : Nat) : State := { s with overlapFaults := n }

/-- Append an outbound event to the trace. -/
def State.emitOut (s : State) (e : OutEvent) : State := { s with trace := s.trace ++ [e] }

/-- Write the events still to come. -/
def State.setInbox (s : State) (es : List EventWord) : State := { s with inbox := es }

/-- Write the whole record of rule R17. -/
def State.setBlock (s : State) (b : Block) : State := { s with toBlock := b }

/-- The state of a block built with `p`, right after its first RESET: nothing sent, no event to come. -/
def resetState (p : Params) : State := { blockReset p with params := p, inbox := [], trace := [] }

/-- The machine right after reset (rule R138), built with the reference configuration TC (log entry 1). -/
def State.reset : State := resetState tc

end Sys2Proof.Machine
end

