-- ==== Sys2Proof/Machine/Operands.lean ====
section
/-! DEFINITION. Operand assembly (rules R61, R83, R95, R106, R107, R108): how a message byte becomes the value a rule
uses. No operand is sign-extended; bytes above 127 are clamped where rule R61 says so. -/

namespace Sys2Proof.Machine

/-- `min(b, 127)`: the clamp of a velocity or a CC value (rules R61, R105). -/
def clamp127 (b : Byte) : Nat := min b.toNat 127

/-- The value of a timed parameter: `((c+1)/127)·MAX_TIME` (rule R106). -/
def timedValue (p : Params) (val : Byte) : ℚ := ((clamp127 val : ℚ) + 1) / 127 * p.maxTime

/-- The value of a unit-level parameter: `c/127` (rule R107). -/
def unitValue (val : Byte) : ℚ := (clamp127 val : ℚ) / 127

/-- The value of a scaled parameter: `(c/127)·MAX` (rule R108). -/
def scaledValue (max : ℚ) (val : Byte) : ℚ := (clamp127 val : ℚ) / 127 * max

/-- The velocity factor `VF`: `(1 − sens) + (min(vel, 127)/127)·sens` (rule R83). -/
def velocityFactor (sens : ℚ) (vel : Byte) : ℚ := (1 - sens) + (clamp127 vel : ℚ) / 127 * sens

/-- The keyboard shift of a note: `((note − 64)/64)·tracking·MAX_TRACKING_RANGE`, the note unsigned and the difference
signed (rule R95). -/
def keyboardShiftOf (p : Params) (tracking : ℚ) (note : Byte) : ℚ :=
  ((note.toNat : ℚ) - 64) / 64 * tracking * p.maxTrackingRange

/-- The step budget of a VCF leg: `max(1, floor(t / TICK_PERIOD_MS))` (rule R82). -/
def stepBudget (p : Params) (t : ℚ) : Nat := max 1 ⌊t / tickPeriodMs p⌋.toNat

/-- The VCA level as a DAC code before clamping: `floor(level·VCA_FULL_SCALE)` (rule R84). -/
def vcaCode (p : Params) (level : ℚ) : ℤ := ⌊level * (p.vcaFullScale : ℚ)⌋

/-- The VCF level as a DAC code before clamping: `floor(level + keyboardShift)` (rule R85). -/
def vcfCode (shift level : ℚ) : ℤ := ⌊level + shift⌋

/-- A DAC value clamped to 0..4095 (rules R13, R73). -/
def clampCode (value : ℤ) : DacCode := BitVec.ofNat 12 (min 4095 (max 0 value)).toNat

/-- `encode(value, subchannel, gainMode)`: the wire word, control nibble above clamped code (rules R67, R73). -/
def wireWord (p : Params) (value : ℤ) (sub : Nat) (gain : GainMode) : WireWord :=
  ((ctrlNibble p.ctrl sub gain).setWidth 16 <<< 12) ||| (clampCode value).setWidth 16

/-- The two bytes of a wire word in the order an implementation that sends bytes sends them: `bits[15:8]` first
(rule R46). The block itself hands over the whole word. -/
def wireBytes (w : WireWord) : List Byte := [w.extractLsb' 8 8, w.extractLsb' 0 8]

/-- The physical value of a trigger level (rules R32, R68). -/
def physicalLevel (p : Params) : TrigLevel → Bool
  | .activeLvl => p.trigActiveHigh
  | .idleLvl => !p.trigActiveHigh

end Sys2Proof.Machine
end

