-- ==== Sys2Proof/Machine/Flags.lean ====
section
/-! DEFINITION. The status flags of the transport gate (rules R35, R36, R37): each way a rule sets them. The block has
no condition codes. -/

namespace Sys2Proof.Machine

/-- A transfer starts: `busy` set and that bank's select line asserted (rule R76). -/
def gateAssert (bank : Nat) (s : State) : State := s.setGate true (some bank)

/-- A transfer ends: the select line deasserted and the channel free (rule R77). -/
def gateRelease (s : State) : State := s.setGate false none

/-- The largest value of the fault counter, `2^FAULT_CTR_WIDTH − 1` (rule R37). -/
def faultCtrMax (p : Params) : Nat := 2 ^ p.faultCtrWidth - 1

/-- One more refused write, saturating (rule R122). -/
def countOverlap (s : State) : State := s.setFaults (min (s.overlapFaults + 1) (faultCtrMax s.params))

end Sys2Proof.Machine
end

