-- ==== Sys2Proof/Machine/Ops.lean ====
section
/-! DEFINITION. The shared operations: raising the run-time fault, the gated transmit and its completion, emission to
a logical output, the drum triggers, the configuration writes, and the fetch of the next inbound event. -/

namespace Sys2Proof.Machine

/-- The run-time faults of rule R121. -/
inductive RunFault where
  /-- `OVERLAP`: a write while a transfer is outstanding. -/
  | overlap
deriving DecidableEq, Repr

/-- The code rule R121 gives the run-time fault. -/
def runFaultCode : RunFault → Nat
  | .overlap => 1

/-- `raise Fault(code)` (rules R13, R122, R127): the block's whole exception entry. The fault is counted, control goes
nowhere and nothing is saved, so there is no return from it (rule R128); the event goes on. -/
def raiseFault (f : RunFault) (s : State) : State :=
  match f with
  | .overlap => countOverlap s

/-- `Write(bank, word)`: the gated transmit (rule R76). -/
def write (bank : Nat) (word : WireWord) (s : State) : State :=
  if s.busy then raiseFault .overlap s else (gateAssert bank s).emitOut (.transmit bank word)

/-- `Emit(out, value)`: one value to one logical output, through the addressing layer and the gate (rule R75). -/
def emit (out : LogicalOutput) (value : ℤ) (s : State) : State :=
  let d := resolve s.params out
  write d.bank (wireWord s.params value d.sub d.gain) s

/-- `DONE(b)`: the completion frees an outstanding transfer whatever bank it names, and is ignored when none is
outstanding (rule R77). -/
def transferDone (_b : Byte) (s : State) : State := if s.busy then gateRelease s else s

/-- Drive a trigger line and report it: `trig[v] <- level`, `SetTrigger(v, level)` (rules R104, R112). -/
def driveTrigger (v : Nat) (level : TrigLevel) (s : State) : State :=
  (s.setTrig v level).emitOut (.setTrigger v level)

/-- Arm a drum voice (rule R104). -/
def armDrum (v : Nat) (s : State) : State := driveTrigger v .activeLvl (s.setDrumCount v s.params.drumPulse)

/-- `drumCount[v]`: the countdown of a voice, 0 for a number that is no voice (rule R31). -/
def drumCountAt (s : State) (v : Nat) : Nat := s.drumCount.getD v 0

/-- One voice's part of the drum countdown (rule R112). -/
def drumStep (s : State) (v : Nat) : State :=
  let n := drumCountAt s v
  if n = 0 then s
  else if n - 1 = 0 then driveTrigger v .idleLvl (s.setDrumCount v 0)
  else s.setDrumCount v (n - 1)

/-- `DrumCountdown()`: every voice in ascending order (rule R112). -/
def drumCountdown (s : State) : State := (List.range s.params.nDrum).foldl drumStep s

/-- Write the register of a parameter with the value its class maps the CC value to (rules R22, R106 to R109). -/
def writeParam (id : ParamId) (val : Byte) (s : State) : State :=
  match id with
  | .vcaAttack => s.setCfgVca { s.cfgVca with attackTimeMs := timedValue s.params val }
  | .vcaDecay => s.setCfgVca { s.cfgVca with decayTimeMs := timedValue s.params val }
  | .vcaSustain => s.setCfgVca { s.cfgVca with sustainLevel := unitValue val }
  | .vcaRelease => s.setCfgVca { s.cfgVca with releaseTimeMs := timedValue s.params val }
  | .vcfAttack => s.setCfgVcf { s.cfgVcf with attackTimeMs := timedValue s.params val }
  | .vcfDecay => s.setCfgVcf { s.cfgVcf with decayTimeMs := timedValue s.params val }
  | .vcfSustain => s.setCfgVcf { s.cfgVcf with sustainLevel := unitValue val }
  | .vcfRelease => s.setCfgVcf { s.cfgVcf with releaseTimeMs := timedValue s.params val }
  | .vcaVelSens => s.setCfgVca { s.cfgVca with velocitySensitivity := unitValue val }
  | .vcfVelSens => s.setCfgVcf { s.cfgVcf with velocitySensitivity := unitValue val }
  | .kbdTracking => s.setCfgVcf { s.cfgVcf with keyboardTrackingAmount := unitValue val }
  | .envAmount => s.setCfgVcf { s.cfgVcf with envelopeAmount := scaledValue s.params.maxEnvAmount val }
  | .cutoff => s.setGlob { s.glob with vcfCutoff := scaledValue s.params.maxCutoff val }
  | .resonance => s.setGlob { s.glob with vcfResonance := scaledValue s.params.maxResonance val }
  | .waveform => s.setAux { s.aux with waveform := clamp127 val }
  | .octave => s.setAux { s.aux with octave := clamp127 val }
  | .detune => s.setAux { s.aux with detune := clamp127 val }
  | .sync => s.setAux { s.aux with sync := clamp127 val }
  | .filterOrder => s.setAux { s.aux with filterOrder := clamp127 val }

/-- `ParamUpdate(cc, val)`: the register that `CC_MAP` names is written; an unmapped number changes nothing
(rule R105). -/
def paramUpdate (cc val : Byte) (s : State) : State :=
  match ccParam s.params cc with
  | none => s
  | some id => writeParam id val s

/-- The fetch: the next event the environment presents, and the state with that event taken (rules R8, R52). -/
def nextEvent (s : State) : Option (EventWord × State) :=
  match s.inbox with
  | [] => none
  | e :: rest => some (e, s.setInbox rest)

end Sys2Proof.Machine
end

