-- ==== Sys2Proof/Machine/ControlChange.lean ====
section
/-! DEFINITION. The meanings of the control-change messages (rules R105 to R109). The channel is not read (decision
D16), and no runtime field is written (rule R21). -/

namespace Sys2Proof.Machine

/-- CONTROL_CHANGE (rule R105). -/
def execControlChange (_ch : Nibble) (cc val : Byte) (s : State) : Result := .next (paramUpdate cc val s)

/-- CC_VCA_ATTACK (rule R106). -/
def execCcVcaAttack (_ch : Nibble) (_cc val : Byte) (s : State) : Result := .next (writeParam .vcaAttack val s)

/-- CC_VCA_DECAY (rule R106). -/
def execCcVcaDecay (_ch : Nibble) (_cc val : Byte) (s : State) : Result := .next (writeParam .vcaDecay val s)

/-- CC_VCA_SUSTAIN (rule R107). -/
def execCcVcaSustain (_ch : Nibble) (_cc val : Byte) (s : State) : Result := .next (writeParam .vcaSustain val s)

/-- CC_VCA_RELEASE (rule R106). -/
def execCcVcaRelease (_ch : Nibble) (_cc val : Byte) (s : State) : Result := .next (writeParam .vcaRelease val s)

/-- CC_VCF_ATTACK (rule R106). -/
def execCcVcfAttack (_ch : Nibble) (_cc val : Byte) (s : State) : Result := .next (writeParam .vcfAttack val s)

/-- CC_VCF_DECAY (rule R106). -/
def execCcVcfDecay (_ch : Nibble) (_cc val : Byte) (s : State) : Result := .next (writeParam .vcfDecay val s)

/-- CC_VCF_SUSTAIN (rule R107). -/
def execCcVcfSustain (_ch : Nibble) (_cc val : Byte) (s : State) : Result := .next (writeParam .vcfSustain val s)

/-- CC_VCF_RELEASE (rule R106). -/
def execCcVcfRelease (_ch : Nibble) (_cc val : Byte) (s : State) : Result := .next (writeParam .vcfRelease val s)

/-- CC_VCA_VEL_SENS (rule R107). -/
def execCcVcaVelSens (_ch : Nibble) (_cc val : Byte) (s : State) : Result := .next (writeParam .vcaVelSens val s)

/-- CC_VCF_VEL_SENS (rule R107). -/
def execCcVcfVelSens (_ch : Nibble) (_cc val : Byte) (s : State) : Result := .next (writeParam .vcfVelSens val s)

/-- CC_KBD_TRACKING (rule R107). -/
def execCcKbdTracking (_ch : Nibble) (_cc val : Byte) (s : State) : Result := .next (writeParam .kbdTracking val s)

/-- CC_ENV_AMOUNT (rule R108). -/
def execCcEnvAmount (_ch : Nibble) (_cc val : Byte) (s : State) : Result := .next (writeParam .envAmount val s)

/-- CC_CUTOFF (rule R108). -/
def execCcCutoff (_ch : Nibble) (_cc val : Byte) (s : State) : Result := .next (writeParam .cutoff val s)

/-- CC_RESONANCE (rule R108). -/
def execCcResonance (_ch : Nibble) (_cc val : Byte) (s : State) : Result := .next (writeParam .resonance val s)

/-- CC_WAVEFORM (rule R109). -/
def execCcWaveform (_ch : Nibble) (_cc val : Byte) (s : State) : Result := .next (writeParam .waveform val s)

/-- CC_OCTAVE (rule R109). -/
def execCcOctave (_ch : Nibble) (_cc val : Byte) (s : State) : Result := .next (writeParam .octave val s)

/-- CC_DETUNE (rule R109). -/
def execCcDetune (_ch : Nibble) (_cc val : Byte) (s : State) : Result := .next (writeParam .detune val s)

/-- CC_SYNC (rule R109). -/
def execCcSync (_ch : Nibble) (_cc val : Byte) (s : State) : Result := .next (writeParam .sync val s)

/-- CC_FILTER_ORDER (rule R109). -/
def execCcFilterOrder (_ch : Nibble) (_cc val : Byte) (s : State) : Result := .next (writeParam .filterOrder val s)

end Sys2Proof.Machine
end

