-- ==== Sys2Proof/Machine/Envelope.lean ====
section
/-! DEFINITION. The envelope ramp generator (rules R80 to R97): the eight step rules and the four trigger rules. Each
leg's arithmetic is a function of the runtime record alone; the step adds the emission in the order rule R81 gives. -/

namespace Sys2Proof.Machine

/-- The VCA runtime after the addition of an ATTACK step, and the ATTACK→DECAY transition (rule R87). -/
def vcaAttackNext (p : Params) (c : EnvConfig) (r : VcaRuntime) : VcaRuntime :=
  let level := r.currentLevel + r.perTickDelta
  if level ≥ r.targetLevel then
    let target := r.targetLevel * c.sustainLevel
    { state := .decay
      currentLevel := level
      targetLevel := target
      perTickDelta := (target - level) * tickPeriodMs p / c.decayTimeMs }
  else { r with currentLevel := level }

/-- The VCA runtime after the addition of a DECAY step that is not on the plateau (rule R88). -/
def vcaDecayNext (r : VcaRuntime) : VcaRuntime :=
  let level := r.currentLevel + r.perTickDelta
  { r with currentLevel := if level ≤ r.targetLevel then r.targetLevel else level }

/-- The VCA runtime after the addition of a RELEASE step that is not at rest (rule R89). -/
def vcaReleaseNext (r : VcaRuntime) : VcaRuntime :=
  let level := r.currentLevel + r.perTickDelta
  if level ≤ 0 then { r with currentLevel := 0, state := .idle } else { r with currentLevel := level }

/-- Emit the VCA level (rules R84, R87, R88, R89). -/
def emitVca (level : ℚ) (s : State) : State := emit .vcaLevel (vcaCode s.params level) s

/-- VCA step in IDLE (rule R86). -/
def vcaStepIdle (s : State) : State := s

/-- VCA step in ATTACK: emit first, add second (rule R87). -/
def vcaStepAttack (s : State) : State :=
  let s₁ := emitVca s.vca.currentLevel s
  s₁.setVca (vcaAttackNext s₁.params s₁.cfgVca s₁.vca)

/-- VCA step in DECAY: hold on the plateau, else add first and emit second (rule R88). -/
def vcaStepDecay (s : State) : State :=
  if s.vca.currentLevel ≤ s.vca.targetLevel then s
  else
    let r := vcaDecayNext s.vca
    emitVca r.currentLevel (s.setVca r)

/-- VCA step in RELEASE: stop at rest, else add first and emit second (rule R89). -/
def vcaStepRelease (s : State) : State :=
  if s.vca.currentLevel ≤ 0 then s.setVca { s.vca with state := .idle }
  else
    let r := vcaReleaseNext s.vca
    emitVca r.currentLevel (s.setVca r)

/-- `VcaStep()` (rule R117). -/
def vcaStep (s : State) : State :=
  match s.vca.state with
  | .idle => vcaStepIdle s
  | .attack => vcaStepAttack s
  | .decay => vcaStepDecay s
  | .release => vcaStepRelease s

/-- The VCF runtime after the addition of an ATTACK step, and the ATTACK→DECAY transition, which reads the baseline
cutoff, the sustain level and the decay time as they are at this step (rule R91). -/
def vcfAttackNext (p : Params) (c : VcfConfig) (rest : ℚ) (r : VcfRuntime) : VcfRuntime :=
  let level := r.currentLevel + r.perTickDelta
  let elapsed := r.elapsedTicks + 1
  if elapsed ≥ r.ticksToTarget then
    let target := rest + (r.targetLevel - rest) * c.sustainLevel
    let budget := stepBudget p c.decayTimeMs
    { r with
      state := .decay
      currentLevel := level
      targetLevel := target
      ticksToTarget := budget
      elapsedTicks := 0
      perTickDelta := (target - level) / (budget : ℚ) }
  else { r with currentLevel := level, elapsedTicks := elapsed }

/-- The VCF runtime after the addition of a DECAY step that is not on the plateau (rule R92). -/
def vcfDecayNext (r : VcfRuntime) : VcfRuntime :=
  let elapsed := r.elapsedTicks + 1
  { r with
    currentLevel := if elapsed ≥ r.ticksToTarget then r.targetLevel else r.currentLevel + r.perTickDelta
    elapsedTicks := elapsed }

/-- The VCF runtime after the addition of a RELEASE step whose leg is not complete (rule R93). -/
def vcfReleaseNext (r : VcfRuntime) : VcfRuntime :=
  let elapsed := r.elapsedTicks + 1
  if elapsed ≥ r.ticksToTarget then
    { r with currentLevel := r.targetLevel, elapsedTicks := elapsed, state := .idle }
  else { r with currentLevel := r.currentLevel + r.perTickDelta, elapsedTicks := elapsed }

/-- Emit the VCF level with the keyboard shift added (rules R85, R91, R92, R93). -/
def emitVcf (level : ℚ) (s : State) : State := emit .vcfCutoff (vcfCode s.vcf.keyboardShift level) s

/-- VCF step in IDLE (rule R90). -/
def vcfStepIdle (s : State) : State := s

/-- VCF step in ATTACK: emit first, add second (rule R91). -/
def vcfStepAttack (s : State) : State :=
  let s₁ := emitVcf s.vcf.currentLevel s
  s₁.setVcf (vcfAttackNext s₁.params s₁.cfgVcf s₁.glob.vcfCutoff s₁.vcf)

/-- VCF step in DECAY: hold on the plateau, else add first and emit second (rule R92). -/
def vcfStepDecay (s : State) : State :=
  if s.vcf.elapsedTicks ≥ s.vcf.ticksToTarget then s
  else
    let r := vcfDecayNext s.vcf
    emitVcf r.currentLevel (s.setVcf r)

/-- VCF step in RELEASE: stop if the leg is complete, else add first and emit second (rule R93). -/
def vcfStepRelease (s : State) : State :=
  if s.vcf.elapsedTicks ≥ s.vcf.ticksToTarget then s.setVcf { s.vcf with state := .idle }
  else
    let r := vcfReleaseNext s.vcf
    emitVcf r.currentLevel (s.setVcf r)

/-- `VcfStep()` (rule R117). -/
def vcfStep (s : State) : State :=
  match s.vcf.state with
  | .idle => vcfStepIdle s
  | .attack => vcfStepAttack s
  | .decay => vcfStepDecay s
  | .release => vcfStepRelease s

/-- The VCA runtime at a note-on: ATTACK from the current level (rule R94). -/
def vcaNoteOnNext (p : Params) (c : EnvConfig) (vel : Byte) (r : VcaRuntime) : VcaRuntime :=
  let target := velocityFactor c.velocitySensitivity vel
  { r with state := .attack, targetLevel := target, perTickDelta := tickPeriodMs p * target / c.attackTimeMs }

/-- The VCF runtime at a note-on: ATTACK from the current level, the delta measured from the baseline (rule R95). -/
def vcfNoteOnNext (p : Params) (c : VcfConfig) (cutoff : ℚ) (m : MidiNoteState) (r : VcfRuntime) : VcfRuntime :=
  let target := c.envelopeAmount * velocityFactor c.velocitySensitivity m.velocity
  let budget := stepBudget p c.attackTimeMs
  { r with
    state := .attack
    targetLevel := target
    ticksToTarget := budget
    elapsedTicks := 0
    perTickDelta := (target - cutoff) / (budget : ℚ)
    keyboardShift := keyboardShiftOf p c.keyboardTrackingAmount m.note }

/-- The VCA runtime at a note-off: RELEASE to 0 from the current level (rule R96). -/
def vcaNoteOffNext (p : Params) (c : EnvConfig) (r : VcaRuntime) : VcaRuntime :=
  { r with
    state := .release
    targetLevel := 0
    perTickDelta := (0 - r.currentLevel) * tickPeriodMs p / c.releaseTimeMs }

/-- The VCF runtime at a note-off: RELEASE to the baseline of this moment (rule R97). -/
def vcfNoteOffNext (p : Params) (c : VcfConfig) (cutoff : ℚ) (r : VcfRuntime) : VcfRuntime :=
  let budget := stepBudget p c.releaseTimeMs
  { r with
    state := .release
    targetLevel := cutoff
    ticksToTarget := budget
    elapsedTicks := 0
    perTickDelta := (cutoff - r.currentLevel) / (budget : ℚ) }

/-- `NoteOnVCA()` (rule R94). -/
def noteOnVca (s : State) : State := s.setVca (vcaNoteOnNext s.params s.cfgVca s.midi.velocity s.vca)

/-- `NoteOnVCF()` (rule R95). -/
def noteOnVcf (s : State) : State := s.setVcf (vcfNoteOnNext s.params s.cfgVcf s.glob.vcfCutoff s.midi s.vcf)

/-- `NoteOffVCA()` (rule R96). -/
def noteOffVca (s : State) : State := s.setVca (vcaNoteOffNext s.params s.cfgVca s.vca)

/-- `NoteOffVCF()` (rule R97). -/
def noteOffVcf (s : State) : State := s.setVcf (vcfNoteOffNext s.params s.cfgVcf s.glob.vcfCutoff s.vcf)

/-- `NoteOn(n, v)` (rule R102). -/
def noteOn (note vel : Byte) (s : State) : State := noteOnVcf (noteOnVca (s.setMidi { note := note, velocity := vel }))

/-- `NoteOff()` (rule R103). -/
def noteOff (s : State) : State := noteOffVcf (noteOffVca s)

end Sys2Proof.Machine
end

