-- ==== Sys2Proof/Machine/Midi.lean ====
section
/-! DEFINITION. The meanings of the note and ignored messages (rules R102, R103, R104, R110). -/

namespace Sys2Proof.Machine

/-- DRUM_NOTE_ON: arm the voice the note is mapped to; an unmapped note changes nothing; the velocity is not read
(rule R104). -/
def execDrumNoteOn (_ch : Nibble) (note _vel : Byte) (s : State) : Result :=
  match drumVoice s.params note with
  | none => .next s
  | some v => .next (armDrum v s)

/-- NOTE_ON_VEL0_OFF: a note-off, whatever the note (rules R62 row 2, R103). -/
def execNoteOnVel0Off (_ch : Nibble) (_note : Byte) (s : State) : Result := .next (noteOff s)

/-- NOTE_ON on a non-drum channel (rule R102). -/
def execNoteOn (_ch : Nibble) (note vel : Byte) (s : State) : Result := .next (noteOn note vel s)

/-- NOTE_OFF on any channel; neither data byte is read (rule R103). -/
def execNoteOff (_ch : Nibble) (_note _vel : Byte) (s : State) : Result := .next (noteOff s)

/-- IGNORED: nothing changes (rule R110). -/
def execIgnored (_kind _ch : Nibble) (_d1 _d2 : Byte) (s : State) : Result := .next s

end Sys2Proof.Machine
end

