-- ==== Sys2Proof/Machine/Construct.lean ====
section
/-! DEFINITION. Construction (rules R10, R43, R72, R121, R123): the checks a parameter set must pass before a block
exists, in the order the spec tests them. -/

namespace Sys2Proof.Machine

/-- Every time of one domain is greater than 0 (rule R18). -/
def timesPositive (c : EnvConfig) : Bool :=
  decide (0 < c.attackTimeMs) && decide (0 < c.decayTimeMs) && decide (0 < c.releaseTimeMs)

/-- A rational in the closed range from 0 to `hi`. -/
def inRange (q hi : ℚ) : Bool := decide (0 ≤ q) && decide (q ≤ hi)

/-- Sustain level and velocity sensitivity of one domain are in [0, 1] (rule R19). -/
def unitLevelsInRange (c : EnvConfig) : Bool := inRange c.sustainLevel 1 && inRange c.velocitySensitivity 1

/-- No `RESET_CONFIG` time is at most 0 (code 16). -/
def resetTimesOk (p : Params) : Bool :=
  timesPositive p.resetConfig.cfgVca && timesPositive p.resetConfig.cfgVcf.toEnvConfig

/-- A destination exists: its bank is below `NBANKS` and its subchannel is 0 or 1 (rules R66, R72). -/
def destOk (p : Params) (d : Dest) : Bool := decide (d.bank < p.nBanks) && decide (d.sub ≤ 1)

/-- `ADDR_MAP` has an entry for every output the block emits to, and what it maps an output to is a destination
(code 17). A pair that an earlier pair of the same output hides is not part of the map (log entry 2). -/
def addrMapOk (p : Params) : Bool :=
  ([.vcoAPitch, .vcoBPitch, .vcaLevel, .vcfCutoff] : List LogicalOutput).all (fun o => (p.addrMap.lookup o).isSome)
    && p.addrMap.all (fun e => (p.addrMap.lookup e.1).all (destOk p))

/-- Rule R43 for one note table, and no entry above 4095: 128 entries, 0 outside 36..71, non-decreasing inside. -/
def tableOk (t : List Nat) : Bool :=
  decide (t.length = 128)
    && t.all (fun c => decide (c ≤ 4095))
    && (List.range 128).all (fun n => decide (36 ≤ n ∧ n ≤ 71) || decide (memRead t n = 0))
    && (List.range 35).all (fun i => decide (memRead t (36 + i) ≤ memRead t (36 + i + 1)))

/-- Both note tables are as rule R43 asks (code 18). -/
def tablesOk (p : Params) : Bool := tableOk p.tableA && tableOk p.tableB

/-- Every level of `RESET_CONFIG` is in the range of rules R19, R20 and R23. -/
def resetLevelsOk (p : Params) : Bool :=
  unitLevelsInRange p.resetConfig.cfgVca
    && unitLevelsInRange p.resetConfig.cfgVcf.toEnvConfig
    && inRange p.resetConfig.cfgVcf.keyboardTrackingAmount 1
    && inRange p.resetConfig.cfgVcf.envelopeAmount p.maxEnvAmount
    && inRange p.resetConfig.glob.vcfCutoff p.maxCutoff
    && inRange p.resetConfig.glob.vcfResonance p.maxResonance

/-- The scalar constraints of rule R9. -/
def scalarsOk (p : Params) : Bool :=
  decide (0 < p.tUs) && decide (4 ≤ p.k) && decide (0 < tickPeriodMs p)
    && decide (0 < p.maxTime) && decide (0 ≤ p.maxEnvAmount) && decide (0 ≤ p.maxCutoff)
    && decide (0 ≤ p.maxResonance) && decide (0 < p.vcaFullScale)
    && decide (p.drumChannel ≤ 15) && decide (1 ≤ p.drumPulse)
    && decide (1 ≤ p.nBanks) && decide (1 ≤ p.faultCtrWidth)

/-- Every voice that `DRUM_NOTE_MAP` maps a note to exists (rule R9); a hidden pair is not part of the map. -/
def drumVoicesOk (p : Params) : Bool :=
  p.drumNoteMap.all fun e => (drumVoice p e.1).all fun v => decide (v < p.nDrum)

/-- Every other constraint of rule R9 (code 19): the scalars, the voices of `DRUM_NOTE_MAP`, the reset levels. -/
def paramsOk (p : Params) : Bool := scalarsOk p && drumVoicesOk p && resetLevelsOk p

/-- The first defect of a parameter set, tested in the order 16, 17, 18, 19 (rule R123); `none` is a set that a
block can be built from. -/
def defect (p : Params) : Option Defect :=
  if !resetTimesOk p then some .zeroTime
  else if !addrMapOk p then some .addrMap
  else if !tablesOk p then some .table
  else if !paramsOk p then some .param
  else none

end Sys2Proof.Machine
end

