-- ==== Sys2Proof/Machine/System.lean ====
section
/-! DEFINITION. The system events: DONE (rule R77) and RESET (rule R138); and what is no event: construction
(rule R123) and the status port (rule R39). -/

namespace Sys2Proof.Machine

/-- DONE (rule R77). -/
def execDone (b : Byte) (s : State) : Result := .next (transferDone b s)

/-- RESET: every field of the block's record takes its reset value; no outbound event is produced, and the trace,
the parameters and the events to come stay (rule R138). -/
def execReset (s : State) : Result := .next (s.setBlock (blockReset s.params))

/-- Construction and the first RESET of boot: the machine of a sound parameter set, or the first defect
(rules R123, R139). -/
def construct (p : Params) : Except Defect State :=
  match defect p with
  | some d => .error d
  | none => .ok (resetState p)

/-- The status port: the host reads the whole record of rule R17; the read changes nothing (rule R39). -/
def statusPort (s : State) : Block := s.toBlock

end Sys2Proof.Machine
end

