-- ==== Sys2Proof/Machine/Tick.lean ====
section
/-! DEFINITION. The tick scheduler (rules R111 to R119): the meaning of TICK. -/

namespace Sys2Proof.Machine

/-- `PitchA()`: phase 0 (rule R115). -/
def pitchA (s : State) : State := emit .vcoAPitch (lookupNote s.params.tableA s.midi.note) s

/-- `PitchB()`: phase 1 (rule R116). -/
def pitchB (s : State) : State := emit .vcoBPitch (lookupNote s.params.tableB s.midi.note) s

/-- `SlowUpdate(p)`: at most one slow update per tick, none in phases 4 to K−1 (rules R113, R118). -/
def slowUpdate (phase : Nat) (s : State) : State :=
  match phase with
  | 0 => pitchA s
  | 1 => pitchB s
  | 2 => vcaStep s
  | 3 => vcfStep s
  | _ => s

/-- The phase advance `p <- (p + 1) mod K` (rule R119). -/
def advancePhase (s : State) : State := s.setPhase ((s.p + 1) % s.params.k)

/-- `onTick()`: the drum countdown, the slow update of the phase at the start of the tick, the phase advance
(rule R111). -/
def tick (s : State) : State := advancePhase (slowUpdate s.p (drumCountdown s))

/-- TICK (rule R111). -/
def execTick (s : State) : Result := .next (tick s)

end Sys2Proof.Machine
end

