-- ==== Sys2Proof/Machine/Dispatch.lean ====
section
/-! DEFINITION. Dispatch: one arm per constructor of Instr, each one direct call of its meaning. -/

namespace Sys2Proof.Machine

def exec (i : Instr) (s : State) : Host.Outcome State Fault Refusal :=
  match i with
  | .drumNoteOn ch note vel => Sys2Proof.Machine.execDrumNoteOn ch note vel s
  | .noteOnVel0Off ch note => Sys2Proof.Machine.execNoteOnVel0Off ch note s
  | .noteOn ch note vel => Sys2Proof.Machine.execNoteOn ch note vel s
  | .noteOff ch note vel => Sys2Proof.Machine.execNoteOff ch note vel s
  | .controlChange ch cc val => Sys2Proof.Machine.execControlChange ch cc val s
  | .ccVcaAttack ch cc val => Sys2Proof.Machine.execCcVcaAttack ch cc val s
  | .ccVcaDecay ch cc val => Sys2Proof.Machine.execCcVcaDecay ch cc val s
  | .ccVcaSustain ch cc val => Sys2Proof.Machine.execCcVcaSustain ch cc val s
  | .ccVcaRelease ch cc val => Sys2Proof.Machine.execCcVcaRelease ch cc val s
  | .ccVcfAttack ch cc val => Sys2Proof.Machine.execCcVcfAttack ch cc val s
  | .ccVcfDecay ch cc val => Sys2Proof.Machine.execCcVcfDecay ch cc val s
  | .ccVcfSustain ch cc val => Sys2Proof.Machine.execCcVcfSustain ch cc val s
  | .ccVcfRelease ch cc val => Sys2Proof.Machine.execCcVcfRelease ch cc val s
  | .ccVcaVelSens ch cc val => Sys2Proof.Machine.execCcVcaVelSens ch cc val s
  | .ccVcfVelSens ch cc val => Sys2Proof.Machine.execCcVcfVelSens ch cc val s
  | .ccKbdTracking ch cc val => Sys2Proof.Machine.execCcKbdTracking ch cc val s
  | .ccEnvAmount ch cc val => Sys2Proof.Machine.execCcEnvAmount ch cc val s
  | .ccCutoff ch cc val => Sys2Proof.Machine.execCcCutoff ch cc val s
  | .ccResonance ch cc val => Sys2Proof.Machine.execCcResonance ch cc val s
  | .ccWaveform ch cc val => Sys2Proof.Machine.execCcWaveform ch cc val s
  | .ccOctave ch cc val => Sys2Proof.Machine.execCcOctave ch cc val s
  | .ccDetune ch cc val => Sys2Proof.Machine.execCcDetune ch cc val s
  | .ccSync ch cc val => Sys2Proof.Machine.execCcSync ch cc val s
  | .ccFilterOrder ch cc val => Sys2Proof.Machine.execCcFilterOrder ch cc val s
  | .ignored kind ch d1 d2 => Sys2Proof.Machine.execIgnored kind ch d1 d2 s
  | .tick => Sys2Proof.Machine.execTick s
  | .done b => Sys2Proof.Machine.execDone b s
  | .reset => Sys2Proof.Machine.execReset s

end Sys2Proof.Machine
end

