-- ==== Sys2Proof/Machine/Step.lean ====
section
/-! DEFINITION. One step of the machine: take the next inbound event, decode it, run it. -/

namespace Sys2Proof.Machine

/-- One atomic inbound event (rules R7, R8, R52). A defective parameter set has no block to run and faults (rules R10,
R123). Where the environment presents no event the block holds its state (rule R136). -/
def step (s : State) : Host.Outcome State Fault Refusal :=
  match defect s.params with
  | some d => .fault (.configDefect d)
  | none =>
    match nextEvent s with
    | none => .next s
    | some (e, s₁) => exec (decode s₁.params e) s₁

/-- `s` with the event word whose low `nbits` bits are those of `w` as the next event the environment presents; the
events that were to come follow it. -/
def State.withFetchWord (s : State) (nbits w : Nat) : State :=
  s.setInbox (BitVec.ofNat 26 (w % 2 ^ nbits) :: s.inbox)

end Sys2Proof.Machine
end

