-- ==== Sys2Proof/Machine/Script.lean ====
section
/-! DEFINITION. The event script of rules R70 and R71: its statements, their expansions into inbound events, a run of
a script, and the reading of its text. The script is the environment's, not the block's: a statement presents events
to the machine and reads nothing but the outbound trace. -/

namespace Sys2Proof.Machine

/-- The statements of the event script: the four primitive ones and the pseudo-statements (rules R70, R71). -/
inductive ScriptLine where
  | midi (s d1 d2 : Byte)
  | tick
  | done (b : Byte)
  | reset
  | noteOn (ch : Nibble) (n v : Byte)
  | noteOff (ch : Nibble) (n v : Byte)
  | cc (ch : Nibble) (c v : Byte)
  | ticks (n : Nat)
  | step
  | steps (n : Nat)
  | cycle
  | cycles (n : Nat)
deriving DecidableEq, Repr

/-- Present one event to the machine: it is the next one taken (rule R8). -/
def present (e : EventWord) (s : State) : Result := step (s.setInbox (e :: s.inbox))

/-- Go on from a next state; a stop stays. -/
def andThen (r : Result) (f : State → Result) : Result :=
  match r with
  | .next s => f s
  | .fault x => .fault x
  | .refused x => .refused x

/-- Do the same thing `n` times. -/
def times (f : State → Result) : Nat → State → Result
  | 0, s => .next s
  | n + 1, s => andThen (f s) (times f n)

/-- The bank of a `Transmit`. -/
def transmitBank : OutEvent → Option Nat
  | .transmit b _ => some b
  | .setTrigger _ _ => none

/-- The bank of the `Transmit` that the trace of `t` holds beyond that of `s`, if there is one. -/
def issuedBank (s t : State) : Option Nat := (t.trace.drop s.trace.length).findSome? transmitBank

/-- `STEP`: a `TICK`, followed by `DONE b` if and only if that `TICK` issued a `Transmit(b, _)` (rule R71). -/
def runStep (s : State) : Result :=
  andThen (present tickWord s) fun t =>
    match issuedBank s t with
    | none => .next t
    | some b => present (doneWord (BitVec.ofNat 8 b)) t

/-- A statement of the script, run from a state (rules R70, R71). -/
def runLine (l : ScriptLine) (s : State) : Result :=
  match l with
  | .midi st d1 d2 => present (messageWord st d1 d2) s
  | .tick => present tickWord s
  | .done b => present (doneWord b) s
  | .reset => present resetWord s
  | .noteOn ch n v => present (messageWord (9#4 ++ ch) n v) s
  | .noteOff ch n v => present (messageWord (8#4 ++ ch) n v) s
  | .cc ch c v => present (messageWord (11#4 ++ ch) c v) s
  | .ticks n => times (present tickWord) n s
  | .step => runStep s
  | .steps n => times runStep n s
  | .cycle => times runStep s.params.k s
  | .cycles n => times (times runStep s.params.k) n s

/-- A script, run line by line. -/
def runScript : List ScriptLine → State → Result
  | [], s => .next s
  | l :: ls, s => andThen (runLine l s) (runScript ls)

/-- The characters of a line before its comment: `;` starts one (rule R70). -/
def dropComment : List Char → List Char
  | [] => []
  | c :: cs => if c = ';' then [] else c :: dropComment cs

/-- Cut a text at the characters `isSep` picks, dropping empty pieces. -/
def cutAt (isSep : Char → Bool) : List Char → List (List Char)
  | [] => []
  | c :: cs =>
    match cutAt isSep cs, cs with
    | rest, [] => if isSep c then rest else [c] :: rest
    | [], _ :: _ => if isSep c then [] else [[c]]
    | w :: ws, d :: _ => if isSep c then w :: ws else if isSep d then [c] :: w :: ws else (c :: w) :: ws

/-- The value of a digit character in a base of at most 16. -/
def digitValue (base : Nat) (c : Char) : Option Nat :=
  let n := c.toNat
  let v :=
    if 48 ≤ n ∧ n ≤ 57 then some (n - 48)
    else if 65 ≤ n ∧ n ≤ 70 then some (n - 55)
    else if 97 ≤ n ∧ n ≤ 102 then some (n - 87)
    else none
  v.bind fun d => if d < base then some d else none

/-- A numeral of at least one digit, the value of the digits before it being `acc`. -/
def readDigits (base : Nat) : Nat → List Char → Option Nat
  | acc, [] => some acc
  | acc, c :: cs => (digitValue base c).bind fun d => readDigits base (acc * base + d) cs

/-- A numeral; an empty one is none. -/
def readNumber (base : Nat) (cs : List Char) : Option Nat := if cs.isEmpty then none else readDigits base 0 cs

/-- A number that fits `w` bits, as a word. -/
def readWord (base w : Nat) (cs : List Char) : Option (BitVec w) :=
  (readNumber base cs).bind fun n => if n < 2 ^ w then some (BitVec.ofNat w n) else none

/-- Three hexadecimal operands, the first of `w` bits and two bytes. -/
def readThree (w : Nat) (f : BitVec w → Byte → Byte → ScriptLine) (a b c : List Char) : Option ScriptLine :=
  match readWord 16 w a, readWord 16 8 b, readWord 16 8 c with
  | some x, some y, some z => some (f x y z)
  | _, _, _ => none

/-- A statement from its words (rules R70, R71): the bytes of a message hexadecimal, counts and banks decimal. -/
def readWords (ws : List (List Char)) : Option ScriptLine :=
  match ws with
  | [k] =>
    if k = ['T', 'I', 'C', 'K'] then some .tick
    else if k = ['R', 'E', 'S', 'E', 'T'] then some .reset
    else if k = ['S', 'T', 'E', 'P'] then some .step
    else if k = ['C', 'Y', 'C', 'L', 'E'] then some .cycle
    else none
  | [k, a] =>
    if k = ['D', 'O', 'N', 'E'] then (readWord 10 8 a).map .done
    else if k = ['T', 'I', 'C', 'K', 'S'] then (readNumber 10 a).map .ticks
    else if k = ['S', 'T', 'E', 'P', 'S'] then (readNumber 10 a).map .steps
    else if k = ['C', 'Y', 'C', 'L', 'E', 'S'] then (readNumber 10 a).map .cycles
    else none
  | [k, a, b, c] =>
    if k = ['M', 'I', 'D', 'I'] then readThree 8 .midi a b c
    else if k = ['N', 'O', 'T', 'E', 'O', 'N'] then readThree 4 .noteOn a b c
    else if k = ['N', 'O', 'T', 'E', 'O', 'F', 'F'] then readThree 4 .noteOff a b c
    else if k = ['C', 'C'] then readThree 4 .cc a b c
    else none
  | _ => none

/-- The statement of one line of text, the comment dropped and the words cut at blanks (log entry 6). -/
def readLine (cs : List Char) : Option ScriptLine :=
  readWords (cutAt (fun c => c = ' ' || c = '\t' || c = '\r') (dropComment cs))

/-- A line of text that holds no statement. -/
def isBlankLine (cs : List Char) : Bool := (dropComment cs).all fun c => c = ' ' || c = '\t' || c = '\r'

/-- The statements of the lines of a script; a line that is no statement and not blank makes the text no script. -/
def readLines : List (List Char) → Option (List ScriptLine)
  | [] => some []
  | l :: ls =>
    if isBlankLine l then readLines ls
    else
      match readLine l, readLines ls with
      | some x, some xs => some (x :: xs)
      | _, _ => none

/-- The text of a script as its statements (rule R70). -/
def readScript (cs : List Char) : Option (List ScriptLine) := readLines (cutAt (fun c => c = '\n') cs)

end Sys2Proof.Machine
end

