-- ==== Sys2Proof/Safety.lean ====
section
/-! DEFINITION. What counts as a sound parameter set, a sound state and a good run, and the terms the statements use:
the constraints a block is built under, the invariant that every step keeps, the events of the drum countdown, what one emission does to the gate and the trace, and which
instructions belong to a class a rule names. -/

namespace Sys2Proof.Machine

/-- Every time of `RESET_CONFIG` is above 0 (rules R9, R18): a set without the defect of code 16. -/
structure ResetTimesSound (p : Params) : Prop where
  vcaAttack : 0 < p.resetConfig.cfgVca.attackTimeMs
  vcaDecay : 0 < p.resetConfig.cfgVca.decayTimeMs
  vcaRelease : 0 < p.resetConfig.cfgVca.releaseTimeMs
  vcfAttack : 0 < p.resetConfig.cfgVcf.attackTimeMs
  vcfDecay : 0 < p.resetConfig.cfgVcf.decayTimeMs
  vcfRelease : 0 < p.resetConfig.cfgVcf.releaseTimeMs

/-- `ADDR_MAP` maps each output the block emits to, and every output it maps goes to an existing bank and a subchannel
0 or 1 (rules R9, R72): a set without the defect of code 17. Any mixer input it maps is included (log entry 16). -/
structure AddrMapSound (p : Params) : Prop where
  total : ∀ o ∈ ([.vcoAPitch, .vcoBPitch, .vcaLevel, .vcfCutoff] : List LogicalOutput),
    ∃ d, p.addrMap.lookup o = some d
  inRange : ∀ o d, p.addrMap.lookup o = some d → d.bank < p.nBanks ∧ (d.sub = 0 ∨ d.sub = 1)

/-- A note table as rule R43 asks: 128 entries of 12 bits, 0 outside 36..71 and non-decreasing inside. -/
structure NoteTableSound (table : List Nat) : Prop where
  length : table.length = 128
  entries : ∀ c ∈ table, c ≤ 4095
  zeroOutside : ∀ n < 128, n < 36 ∨ 71 < n → memRead table n = 0
  monotone : ∀ n, 36 ≤ n → n < 71 → memRead table n ≤ memRead table (n + 1)

/-- The constraints of rule R9 on single numbers, one per row of its table. -/
structure ScalarsSound (p : Params) : Prop where
  tUs : 0 < p.tUs
  k : 4 ≤ p.k
  tickPeriod : 0 < tickPeriodMs p
  maxTime : 0 < p.maxTime
  maxEnvAmount : 0 ≤ p.maxEnvAmount
  maxCutoff : 0 ≤ p.maxCutoff
  maxResonance : 0 ≤ p.maxResonance
  vcaFullScale : 0 < p.vcaFullScale
  drumChannel : p.drumChannel ≤ 15
  drumPulse : 1 ≤ p.drumPulse
  nBanks : 1 ≤ p.nBanks
  faultCtrWidth : 1 ≤ p.faultCtrWidth

/-- Every level of `RESET_CONFIG` is in the range of its register (rules R9, R19, R20, R23). -/
structure ResetLevelsSound (p : Params) : Prop where
  vcaSustain : 0 ≤ p.resetConfig.cfgVca.sustainLevel ∧ p.resetConfig.cfgVca.sustainLevel ≤ 1
  vcaVelSens : 0 ≤ p.resetConfig.cfgVca.velocitySensitivity ∧ p.resetConfig.cfgVca.velocitySensitivity ≤ 1
  vcfSustain : 0 ≤ p.resetConfig.cfgVcf.sustainLevel ∧ p.resetConfig.cfgVcf.sustainLevel ≤ 1
  vcfVelSens : 0 ≤ p.resetConfig.cfgVcf.velocitySensitivity ∧ p.resetConfig.cfgVcf.velocitySensitivity ≤ 1
  tracking : 0 ≤ p.resetConfig.cfgVcf.keyboardTrackingAmount ∧ p.resetConfig.cfgVcf.keyboardTrackingAmount ≤ 1
  amount : 0 ≤ p.resetConfig.cfgVcf.envelopeAmount ∧ p.resetConfig.cfgVcf.envelopeAmount ≤ p.maxEnvAmount
  cutoff : 0 ≤ p.resetConfig.glob.vcfCutoff ∧ p.resetConfig.glob.vcfCutoff ≤ p.maxCutoff
  resonance : 0 ≤ p.resetConfig.glob.vcfResonance ∧ p.resetConfig.glob.vcfResonance ≤ p.maxResonance

/-- Every constraint of rule R9 that no earlier code names: a set without the defect of code 19. -/
structure ParamsSound (p : Params) : Prop where
  scalars : ScalarsSound p
  drumVoices : ∀ n v, p.drumNoteMap.lookup n = some v → v < p.nDrum
  levels : ResetLevelsSound p

/-- The ranges a domain's configuration registers keep (rules R18, R19). -/
structure EnvConfigOk (c : EnvConfig) : Prop where
  attackPos : 0 < c.attackTimeMs
  decayPos : 0 < c.decayTimeMs
  releasePos : 0 < c.releaseTimeMs
  sustainUnit : 0 ≤ c.sustainLevel ∧ c.sustainLevel ≤ 1
  velSensUnit : 0 ≤ c.velocitySensitivity ∧ c.velocitySensitivity ≤ 1

/-- The ranges of all configuration, global and auxiliary registers (rules R18, R19, R20, R23, R24). -/
structure ConfigOk (s : State) : Prop where
  vcaOk : EnvConfigOk s.cfgVca
  vcfOk : EnvConfigOk s.cfgVcf.toEnvConfig
  trackingUnit : 0 ≤ s.cfgVcf.keyboardTrackingAmount ∧ s.cfgVcf.keyboardTrackingAmount ≤ 1
  amountRange : 0 ≤ s.cfgVcf.envelopeAmount ∧ s.cfgVcf.envelopeAmount ≤ s.params.maxEnvAmount
  cutoffRange : 0 ≤ s.glob.vcfCutoff ∧ s.glob.vcfCutoff ≤ s.params.maxCutoff
  resonanceRange : 0 ≤ s.glob.vcfResonance ∧ s.glob.vcfResonance ≤ s.params.maxResonance
  auxRange : s.aux.waveform ≤ 127 ∧ s.aux.octave ≤ 127 ∧ s.aux.detune ≤ 127 ∧ s.aux.sync ≤ 127 ∧ s.aux.filterOrder ≤ 127

/-- The drum timers and lines: one of each per voice, every countdown in 0..P, and the line active exactly while the
countdown is not zero (rules R31, R32, R33). -/
structure DrumOk (s : State) : Prop where
  countLength : s.drumCount.length = s.params.nDrum
  trigLength : s.trig.length = s.params.nDrum
  countRange : ∀ n ∈ s.drumCount, n ≤ s.params.drumPulse
  lineActive : ∀ v : Nat, v < s.params.nDrum → (s.trig[v]? = some .activeLvl ↔ s.drumCount[v]? ≠ some 0)

/-- The gate: busy exactly while a line is asserted, the line a bank of the block, the counter in range (rules R36,
R37, R78). -/
structure GateOk (s : State) : Prop where
  busyIff : s.busy = true ↔ s.bankSel ≠ none
  bankRange : ∀ b, s.bankSel = some b → b < s.params.nBanks
  faultsRange : s.overlapFaults ≤ 2 ^ s.params.faultCtrWidth - 1

/-- The envelopes: no VCA level below 0, an ATTACK that does not fall, a VCF counter within its budget (rules R27,
R99). -/
structure EnvelopeOk (s : State) : Prop where
  vcaLevel : 0 ≤ s.vca.currentLevel
  vcaTarget : 0 ≤ s.vca.targetLevel
  vcaAttack : s.vca.state = .attack → 0 ≤ s.vca.perTickDelta
  budgetPos : 1 ≤ s.vcf.ticksToTarget
  elapsedRange : s.vcf.elapsedTicks ≤ s.vcf.ticksToTarget
  attackOpen : s.vcf.state = .attack → s.vcf.elapsedTicks < s.vcf.ticksToTarget

/-- An outbound event names a bank or a voice of the block (rules R68, R69). -/
def outEventOk (p : Params) : OutEvent → Prop
  | .transmit b _ => b < p.nBanks
  | .setTrigger v _ => v < p.nDrum

/-- The invariant of a block that construction built: what the state rules call the legal values of every field. -/
structure Inv (s : State) : Prop where
  built : defect s.params = none
  config : ConfigOk s
  drums : DrumOk s
  gate : GateOk s
  envelopes : EnvelopeOk s
  phase : s.p < s.params.k
  traceOk : ∀ e ∈ s.trace, outEventOk s.params e

/-- Nothing has gone wrong: no write was ever refused (rule R122). -/
def noOverlap (s : State) : Prop := s.overlapFaults = 0

/-- The trigger events that the drum countdown of a tick at `s` issues, in ascending voice order (rule R112). -/
def drumEvents (s : State) : List OutEvent :=
  ((List.range s.params.nDrum).filter fun v => drumCountAt s v = 1).map fun v => .setTrigger v .idleLvl

/-- A tick from `s` to `t` sent `value` to `out` (rules R75, R76): with the gate free the word is transmitted after
the tick's trigger events, with the gate busy the write is refused and counted. -/
def Sent (out : LogicalOutput) (value : ℤ) (s t : State) : Prop :=
  let d := resolve s.params out
  t.busy = true ∧
  (s.busy = false → t.bankSel = some d.bank ∧ t.overlapFaults = s.overlapFaults ∧
    t.trace = s.trace ++ drumEvents s ++ [.transmit d.bank (wireWord s.params value d.sub d.gain)]) ∧
  (s.busy = true → t.bankSel = s.bankSel ∧
    t.overlapFaults = min (s.overlapFaults + 1) (2 ^ s.params.faultCtrWidth - 1) ∧
    t.trace = s.trace ++ drumEvents s)

/-- A tick from `s` to `t` sent nothing: the gate is as it was, and only trigger events were issued. -/
def Silent (s t : State) : Prop :=
  t.busy = s.busy ∧ t.bankSel = s.bankSel ∧ t.overlapFaults = s.overlapFaults ∧ t.trace = s.trace ++ drumEvents s

/-- The instructions of a CONTROL_CHANGE message: row 5 and the rows that refine it (rule R105). -/
def isControlChange : Instr → Bool
  | .controlChange _ _ _ => true
  | .ccVcaAttack _ _ _ => true
  | .ccVcaDecay _ _ _ => true
  | .ccVcaSustain _ _ _ => true
  | .ccVcaRelease _ _ _ => true
  | .ccVcfAttack _ _ _ => true
  | .ccVcfDecay _ _ _ => true
  | .ccVcfSustain _ _ _ => true
  | .ccVcfRelease _ _ _ => true
  | .ccVcaVelSens _ _ _ => true
  | .ccVcfVelSens _ _ _ => true
  | .ccKbdTracking _ _ _ => true
  | .ccEnvAmount _ _ _ => true
  | .ccCutoff _ _ _ => true
  | .ccResonance _ _ _ => true
  | .ccWaveform _ _ _ => true
  | .ccOctave _ _ _ => true
  | .ccDetune _ _ _ => true
  | .ccSync _ _ _ => true
  | .ccFilterOrder _ _ _ => true
  | .drumNoteOn _ _ _ => false
  | .noteOnVel0Off _ _ => false
  | .noteOn _ _ _ => false
  | .noteOff _ _ _ => false
  | .ignored _ _ _ _ => false
  | .tick => false
  | .done _ => false
  | .reset => false

/-- The instructions that are a note-on of both envelopes (rule R102). -/
def isNoteOn : Instr → Bool
  | .noteOn _ _ _ => true
  | _ => false

/-- The instructions that are a note-off of both envelopes (rule R103). -/
def isNoteOff : Instr → Bool
  | .noteOff _ _ _ => true
  | .noteOnVel0Off _ _ => true
  | _ => false

/-- A completion (rule R77). -/
def isDone : Instr → Bool
  | .done _ => true
  | _ => false

/-- The script statements that hold no bare tick: every tick they present is a `STEP`, whose transfer completes
before the next tick (rules R71, R140). -/
def timelyLine : ScriptLine → Bool
  | .tick => false
  | .ticks _ => false
  | _ => true

/-- The state with every register that no operation reads put to 0: the auxiliary parameters and the resonance
(rules R23, R24). -/
def eraseUnread (s : State) : State :=
  { s with
    aux := { waveform := 0, octave := 0, detune := 0, sync := 0, filterOrder := 0 }
    glob := { s.glob with vcfResonance := 0 } }

end Sys2Proof.Machine
end

