-- ==== Sys2Proof/Certificates/Slice0/Obligations.lean ====
section
/-! DEFINITION. The statements for the provers. Levels and times are exact rationals; `vcaStep^[n]` is `n` envelope
steps; a run of the machine is `Host.Core.run Sys2Proof.core`, which takes the events of the inbox one by one. -/

open Sys2Proof Sys2Proof.Machine

/-! ### Encoding -/

/-- Decoding the word of a well-formed instruction gives the instruction back, whatever the parameters (R58, R59,
R62). -/
def Obligations.DecodeOfEncodeIsTheInstruction : Prop :=
  ∀ (p : Params) (i : Instr), i.wellFormed p = true → decode p (encode i) = i

/-- The word of what a `DISPATCH` word decodes to is that word: the decoder drops no bit of a message (R59). -/
def Obligations.EncodeOfDecodedMessageIsTheWord : Prop :=
  ∀ (p : Params) (e : EventWord), eventTag e = 0#2 → encode (decode p e) = e

/-- Every event word decodes, and what it decodes to is well formed (R62: the decode is total). -/
def Obligations.EveryWordDecodesToAWellFormedInstruction : Prop :=
  ∀ (p : Params) (e : EventWord), (decode p e).wellFormed p = true

/-- A message decodes by the first matching row of the table, the masks as the table writes them (R62). That a
CONTROL_CHANGE with a mapped number decodes to the `CC_*` row of its parameter is the model's deduction from the opcode
table (log entry 8, DEDUCED); R62 says CONTROL_CHANGE of both. -/
def Obligations.MessageDecodesByFirstMatchingRow : Prop :=
  ∀ (p : Params) (s d1 d2 : Byte),
    decode p (messageWord s d1 d2) =
      if s &&& 0xF0#8 = 0x90#8 ∧ (s &&& 0x0F#8).toNat = p.drumChannel then .drumNoteOn (s.extractLsb' 0 4) d1 d2
      else if s &&& 0xF0#8 = 0x90#8 ∧ p.noteOnVel0IsOff = true ∧ d2 = 0#8 then .noteOnVel0Off (s.extractLsb' 0 4) d1
      else if s &&& 0xF0#8 = 0x90#8 then .noteOn (s.extractLsb' 0 4) d1 d2
      else if s &&& 0xF0#8 = 0x80#8 then .noteOff (s.extractLsb' 0 4) d1 d2
      else if s &&& 0xF0#8 = 0xB0#8 then
        match p.ccMap.lookup d1 with
        | some id => ccInstr id (s.extractLsb' 0 4) d1 d2
        | none => .controlChange (s.extractLsb' 0 4) d1 d2
      else .ignored (s.extractLsb' 4 4) (s.extractLsb' 0 4) d1 d2

/-- The payload bits that R58 shows as 0 do not matter: any payload of tag 1 is TICK and of tag 3 RESET, and only
the low byte of tag 2 is read. -/
def Obligations.IgnoredPayloadBitsDoNotMatter : Prop :=
  ∀ p : Params,
    (∀ x : BitVec 24, decode p (1#2 ++ x) = .tick ∧ decode p (3#2 ++ x) = .reset) ∧
    ∀ (x : BitVec 16) (b : Byte), decode p (2#2 ++ x ++ b) = .done b

/-- Words written out from R58 and R59 under TC decode to the instructions they stand for (sanity). -/
def Obligations.WrittenWordsDecodeAsTheTableSays : Prop :=
  decode tc 0b00_1001_0000_00111100_01111111#26 = .noteOn 0#4 60#8 127#8 ∧
  decode tc 0b00_1001_1001_00100100_01100100#26 = .drumNoteOn 9#4 36#8 100#8 ∧
  decode tc 0b00_1000_1001_00100100_00000000#26 = .noteOff 9#4 36#8 0#8 ∧
  decode tc 0b00_1011_1111_01001010_00100000#26 = .ccCutoff 15#4 74#8 32#8 ∧
  decode tc 0b00_1011_0000_00000001_01000000#26 = .controlChange 0#4 1#8 64#8 ∧
  decode tc 0b00_1110_0000_00000000_01000000#26 = .ignored 14#4 0#4 0#8 64#8 ∧
  decode { tc with noteOnVel0IsOff := true } 0b00_1001_0000_00111100_00000000#26 = .noteOnVel0Off 0#4 60#8 ∧
  decode tc 0b01_000000000000000000000000#26 = .tick ∧
  decode tc 0b10_0000000000000000_00000001#26 = .done 1#8 ∧
  decode tc 0b11_000000000000000000000000#26 = .reset

/-- The wire word holds the control nibble in bits 15..12 and the clamped code in bits 11..0 (R67, R73). -/
def Obligations.WireWordPacksTheClampedCode : Prop :=
  ∀ (p : Params) (value : ℤ) (sub : Nat) (gain : GainMode),
    (wireWord p value sub gain).extractLsb' 12 4 = ctrlNibble p.ctrl sub gain ∧
    (((wireWord p value sub gain).extractLsb' 0 12).toNat : ℤ) = min 4095 (max 0 value)

/-! ### The step -/

/-- The next event is decoded and run on the state without it (R7, R8, R52). -/
def Obligations.StepRunsTheDecodedInstruction : Prop :=
  ∀ (s : State) (e : EventWord) (rest : List EventWord), defect s.params = none → s.inbox = e :: rest →
    step s = exec (decode s.params e) { s with inbox := rest }

/-- A block never stops: every step of a sound parameter set answers a next state, and with no event presented that
state is the same (R8, R136). A defective set has no block and faults (R123). -/
def Obligations.StepStopsOnlyWithoutABlock : Prop :=
  ∀ s : State,
    (defect s.params = none → ∃ t : State, step s = .next t) ∧
    (defect s.params = none → s.inbox = [] → step s = .next s) ∧
    ∀ d, defect s.params = some d → step s = .fault (.configDefect d)

/-! ### Messages -/

/-- A drum NOTE_ON arms the voice its note is mapped to and changes nothing else; an unmapped note changes nothing
(R104). -/
def Obligations.DrumNoteOnArmsItsVoice : Prop :=
  ∀ (ch : Nibble) (note vel : Byte) (s : State),
    (s.params.drumNoteMap.lookup note = none → exec (.drumNoteOn ch note vel) s = .next s) ∧
    ∀ v, s.params.drumNoteMap.lookup note = some v →
      exec (.drumNoteOn ch note vel) s = .next { s with
        drumCount := s.drumCount.set v s.params.drumPulse
        trig := s.trig.set v .activeLvl
        trace := s.trace ++ [.setTrigger v .activeLvl] }

/-- A NOTE_ON stores note and velocity and puts both envelopes into ATTACK from their current levels with the targets,
deltas, budget and shift of R94 and R95; nothing else changes (R102). -/
def Obligations.NoteOnStartsBothEnvelopes : Prop :=
  ∀ (ch : Nibble) (n v : Byte) (s : State),
    let vfVca : ℚ := (1 - s.cfgVca.velocitySensitivity) + ((min v.toNat 127 : ℕ) : ℚ) / 127 * s.cfgVca.velocitySensitivity
    let vfVcf : ℚ := (1 - s.cfgVcf.velocitySensitivity) + ((min v.toNat 127 : ℕ) : ℚ) / 127 * s.cfgVcf.velocitySensitivity
    let budget : ℕ := max 1 ⌊s.cfgVcf.attackTimeMs / tickPeriodMs s.params⌋.toNat
    exec (.noteOn ch n v) s = .next { s with
      midi := { note := n, velocity := v }
      vca := { s.vca with
        state := .attack
        targetLevel := vfVca
        perTickDelta := tickPeriodMs s.params * vfVca / s.cfgVca.attackTimeMs }
      vcf := { s.vcf with
        state := .attack
        targetLevel := s.cfgVcf.envelopeAmount * vfVcf
        ticksToTarget := budget
        elapsedTicks := 0
        perTickDelta := (s.cfgVcf.envelopeAmount * vfVcf - s.glob.vcfCutoff) / (budget : ℚ)
        keyboardShift :=
          ((n.toNat : ℚ) - 64) / 64 * s.cfgVcf.keyboardTrackingAmount * s.params.maxTrackingRange } }

/-- A NOTE_OFF, and a NOTE_ON that acts as one, puts both envelopes into RELEASE from their current levels with the
targets, deltas and budget of R96 and R97; nothing else changes (R103). -/
def Obligations.NoteOffReleasesBothEnvelopes : Prop :=
  ∀ (ch : Nibble) (n v : Byte) (s : State),
    let budget : ℕ := max 1 ⌊s.cfgVcf.releaseTimeMs / tickPeriodMs s.params⌋.toNat
    let t : State := { s with
      vca := { s.vca with
        state := .release
        targetLevel := 0
        perTickDelta := (0 - s.vca.currentLevel) * tickPeriodMs s.params / s.cfgVca.releaseTimeMs }
      vcf := { s.vcf with
        state := .release
        targetLevel := s.glob.vcfCutoff
        ticksToTarget := budget
        elapsedTicks := 0
        perTickDelta := (s.glob.vcfCutoff - s.vcf.currentLevel) / (budget : ℚ) } }
    exec (.noteOff ch n v) s = .next t ∧ exec (.noteOnVel0Off ch n) s = .next t

/-- A message of any other kind changes nothing (R110). -/
def Obligations.IgnoredMessageChangesNothing : Prop :=
  ∀ (kind ch : Nibble) (d1 d2 : Byte) (s : State), exec (.ignored kind ch d1 d2) s = .next s

/-- The six timed parameters: the register takes `((c+1)/127)·MAX_TIME` with `c` the value clamped to 127, and nothing
else changes (R105, R106). -/
def Obligations.TimedParameterWritesItsRegister : Prop :=
  ∀ (ch : Nibble) (cc val : Byte) (s : State),
    let x : ℚ := (((min val.toNat 127 : ℕ) : ℚ) + 1) / 127 * s.params.maxTime
    exec (.ccVcaAttack ch cc val) s = .next { s with cfgVca := { s.cfgVca with attackTimeMs := x } } ∧
    exec (.ccVcaDecay ch cc val) s = .next { s with cfgVca := { s.cfgVca with decayTimeMs := x } } ∧
    exec (.ccVcaRelease ch cc val) s = .next { s with cfgVca := { s.cfgVca with releaseTimeMs := x } } ∧
    exec (.ccVcfAttack ch cc val) s = .next { s with cfgVcf := { s.cfgVcf with attackTimeMs := x } } ∧
    exec (.ccVcfDecay ch cc val) s = .next { s with cfgVcf := { s.cfgVcf with decayTimeMs := x } } ∧
    exec (.ccVcfRelease ch cc val) s = .next { s with cfgVcf := { s.cfgVcf with releaseTimeMs := x } }

/-- The five unit-level parameters: the register takes `c/127`, and nothing else changes (R105, R107). -/
def Obligations.UnitLevelParameterWritesItsRegister : Prop :=
  ∀ (ch : Nibble) (cc val : Byte) (s : State),
    let x : ℚ := ((min val.toNat 127 : ℕ) : ℚ) / 127
    exec (.ccVcaSustain ch cc val) s = .next { s with cfgVca := { s.cfgVca with sustainLevel := x } } ∧
    exec (.ccVcfSustain ch cc val) s = .next { s with cfgVcf := { s.cfgVcf with sustainLevel := x } } ∧
    exec (.ccVcaVelSens ch cc val) s = .next { s with cfgVca := { s.cfgVca with velocitySensitivity := x } } ∧
    exec (.ccVcfVelSens ch cc val) s = .next { s with cfgVcf := { s.cfgVcf with velocitySensitivity := x } } ∧
    exec (.ccKbdTracking ch cc val) s = .next { s with cfgVcf := { s.cfgVcf with keyboardTrackingAmount := x } }

/-- The three scaled parameters: the register takes `(c/127)·MAX`, and nothing else changes (R105, R108). -/
def Obligations.ScaledParameterWritesItsRegister : Prop :=
  ∀ (ch : Nibble) (cc val : Byte) (s : State),
    let x : ℚ := ((min val.toNat 127 : ℕ) : ℚ) / 127
    exec (.ccEnvAmount ch cc val) s =
      .next { s with cfgVcf := { s.cfgVcf with envelopeAmount := x * s.params.maxEnvAmount } } ∧
    exec (.ccCutoff ch cc val) s = .next { s with glob := { s.glob with vcfCutoff := x * s.params.maxCutoff } } ∧
    exec (.ccResonance ch cc val) s = .next { s with glob := { s.glob with vcfResonance := x * s.params.maxResonance } }

/-- The five selector parameters: the register takes the clamped value itself, and nothing else changes (R105,
R109). -/
def Obligations.SelectorParameterStoresTheRawValue : Prop :=
  ∀ (ch : Nibble) (cc val : Byte) (s : State),
    let c : ℕ := min val.toNat 127
    exec (.ccWaveform ch cc val) s = .next { s with aux := { s.aux with waveform := c } } ∧
    exec (.ccOctave ch cc val) s = .next { s with aux := { s.aux with octave := c } } ∧
    exec (.ccDetune ch cc val) s = .next { s with aux := { s.aux with detune := c } } ∧
    exec (.ccSync ch cc val) s = .next { s with aux := { s.aux with sync := c } } ∧
    exec (.ccFilterOrder ch cc val) s = .next { s with aux := { s.aux with filterOrder := c } }

/-- A CONTROL_CHANGE with an unmapped number changes nothing; with a mapped one it does what the row of that
parameter does (R105). -/
def Obligations.ControlChangeActsAsItsParameter : Prop :=
  ∀ (ch : Nibble) (cc val : Byte) (s : State),
    (s.params.ccMap.lookup cc = none → exec (.controlChange ch cc val) s = .next s) ∧
    ∀ id, s.params.ccMap.lookup cc = some id →
      ∃ t : State, exec (.controlChange ch cc val) s = .next t ∧ exec (ccInstr id ch cc val) s = .next t

/-- A control change writes no runtime state, no gate state and no outbound event: no ramp in flight changes (R21). -/
def Obligations.ControlChangeLeavesRampsAlone : Prop :=
  ∀ (i : Instr) (s t : State), isControlChange i = true → exec i s = .next t →
    t.vca = s.vca ∧ t.vcf = s.vcf ∧ t.midi = s.midi ∧ t.drumCount = s.drumCount ∧ t.trig = s.trig ∧ t.p = s.p ∧
    t.busy = s.busy ∧ t.bankSel = s.bankSel ∧ t.overlapFaults = s.overlapFaults ∧ t.trace = s.trace ∧
    t.params = s.params ∧ t.inbox = s.inbox

/-- The same control change twice leaves the state it leaves once (R50). -/
def Obligations.ControlChangeIsIdempotent : Prop :=
  ∀ (i : Instr) (s t : State), isControlChange i = true → exec i s = .next t → exec i t = .next t

/-! ### DONE and RESET -/

/-- A completion frees an outstanding transfer whatever bank it names; with none outstanding it changes nothing
(R77). -/
def Obligations.DoneFreesTheGateWhateverTheBank : Prop :=
  ∀ (b : Byte) (s : State),
    (s.busy = true → exec (.done b) s = .next { s with busy := false, bankSel := none }) ∧
    (s.busy = false → exec (.done b) s = .next s)

/-- RESET loads the table of R138 into every field of the block's record; it issues nothing and keeps the parameters
and the events to come. -/
def Obligations.ResetLoadsTheResetTable : Prop :=
  ∀ s : State, exec .reset s = .next
    { cfgVca := s.params.resetConfig.cfgVca
      cfgVcf := s.params.resetConfig.cfgVcf
      glob := s.params.resetConfig.glob
      aux := { waveform := 0, octave := 0, detune := 0, sync := 0, filterOrder := 0 }
      vca := { state := .idle, currentLevel := 0, targetLevel := 0, perTickDelta := 0 }
      vcf :=
        { state := .idle
          currentLevel := s.params.resetConfig.glob.vcfCutoff
          targetLevel := s.params.resetConfig.glob.vcfCutoff
          perTickDelta := 0, elapsedTicks := 0, ticksToTarget := 1, keyboardShift := 0 }
      midi := { note := 0#8, velocity := 0#8 }
      drumCount := List.replicate s.params.nDrum 0
      trig := List.replicate s.params.nDrum .idleLvl
      p := 0
      busy := false
      bankSel := none
      overlapFaults := 0
      params := s.params
      inbox := s.inbox
      trace := s.trace }

/-! ### TICK -/

/-- A tick advances the phase by one modulo K and writes no configuration and no note; the VCA changes only in phase 2
and the VCF only in phase 3 (R111, R113, R119). -/
def Obligations.TickAdvancesThePhaseAndKeepsTheRest : Prop :=
  ∀ s : State, ∃ t : State, exec .tick s = .next t ∧ t.p = (s.p + 1) % s.params.k ∧
    t.cfgVca = s.cfgVca ∧ t.cfgVcf = s.cfgVcf ∧ t.glob = s.glob ∧ t.aux = s.aux ∧ t.midi = s.midi ∧
    t.params = s.params ∧ t.inbox = s.inbox ∧ (s.p ≠ 2 → t.vca = s.vca) ∧ (s.p ≠ 3 → t.vcf = s.vcf)

/-- In every tick each running countdown goes down by one, a countdown that reaches 0 puts its line to idle, a
countdown at 0 stays there, and the trace first gains the idle events in ascending voice order (R112). -/
def Obligations.TickCountsTheDrumsDown : Prop :=
  ∀ s : State, s.trig.length = s.drumCount.length → s.drumCount.length = s.params.nDrum →
    ∃ t : State, exec .tick s = .next t ∧
      t.drumCount.length = s.drumCount.length ∧ t.trig.length = s.trig.length ∧
      (∀ v n : ℕ, s.drumCount[v]? = some n → t.drumCount[v]? = some (n - 1)) ∧
      (∀ v : ℕ, s.drumCount[v]? = some 1 → t.trig[v]? = some TrigLevel.idleLvl) ∧
      (∀ v n : ℕ, s.drumCount[v]? = some n → n ≠ 1 → t.trig[v]? = s.trig[v]?) ∧
      ∃ sent, t.trace = s.trace ++
        ((List.range s.params.nDrum).filter fun v => s.drumCount[v]? = some 1).map (fun v => OutEvent.setTrigger v .idleLvl)
          ++ sent ∧ sent.length ≤ 1 ∧ ∀ x ∈ sent, ∃ b w, x = .transmit b w

/-- Phases 0 and 1 send the note tables' codes for the stored note to the two pitch outputs, 0 for a note above 127
(R115, R116). -/
def Obligations.PitchPhasesSendTheTableCode : Prop :=
  ∀ s : State,
    (s.p = 0 → ∃ t : State, exec .tick s = .next t ∧
      Sent .vcoAPitch (if s.midi.note.toNat ≤ 127 then s.params.tableA.getD s.midi.note.toNat 0 else 0 : ℕ) s t) ∧
    (s.p = 1 → ∃ t : State, exec .tick s = .next t ∧
      Sent .vcoBPitch (if s.midi.note.toNat ≤ 127 then s.params.tableB.getD s.midi.note.toNat 0 else 0 : ℕ) s t)

/-- Phases 4 to K−1 send nothing (R118). -/
def Obligations.IdlePhasesSendNothing : Prop :=
  ∀ s : State, 4 ≤ s.p → ∃ t : State, exec .tick s = .next t ∧ Silent s t

/-- At its phase, an envelope in IDLE or on its sustain plateau sends nothing and its runtime does not change (R86,
R88, R90, R92). -/
def Obligations.RestingEnvelopeSendsNothing : Prop :=
  ∀ s : State,
    (s.p = 2 → s.vca.state = .idle ∨ (s.vca.state = .decay ∧ s.vca.currentLevel ≤ s.vca.targetLevel) →
      ∃ t : State, exec .tick s = .next t ∧ Silent s t ∧ t.vca = s.vca) ∧
    (s.p = 3 → s.vcf.state = .idle ∨ (s.vcf.state = .decay ∧ s.vcf.ticksToTarget ≤ s.vcf.elapsedTicks) →
      ∃ t : State, exec .tick s = .next t ∧ Silent s t ∧ t.vcf = s.vcf)

/-- A VCA ATTACK step sends the level before the addition, adds the delta, and at or above the target turns to DECAY
with the decay target and delta of R87. -/
def Obligations.VcaAttackStepEmitsThenAdds : Prop :=
  ∀ s : State, s.p = 2 → s.vca.state = .attack →
    let level := s.vca.currentLevel + s.vca.perTickDelta
    let target := s.vca.targetLevel * s.cfgVca.sustainLevel
    ∃ t : State, exec .tick s = .next t ∧
      Sent .vcaLevel ⌊s.vca.currentLevel * (s.params.vcaFullScale : ℚ)⌋ s t ∧
      (s.vca.targetLevel ≤ level → t.vca =
        { state := .decay, currentLevel := level, targetLevel := target
          perTickDelta := (target - level) * tickPeriodMs s.params / s.cfgVca.decayTimeMs }) ∧
      (level < s.vca.targetLevel → t.vca = { s.vca with currentLevel := level })

/-- A VCA DECAY step above its target adds the delta, lands on the target if it reaches it, and sends the new level
(R88). -/
def Obligations.VcaDecayStepAddsThenEmits : Prop :=
  ∀ s : State, s.p = 2 → s.vca.state = .decay → s.vca.targetLevel < s.vca.currentLevel →
    let level := max s.vca.targetLevel (s.vca.currentLevel + s.vca.perTickDelta)
    ∃ t : State, exec .tick s = .next t ∧ Sent .vcaLevel ⌊level * (s.params.vcaFullScale : ℚ)⌋ s t ∧
      t.vca = { s.vca with currentLevel := level }

/-- A VCA RELEASE step above 0 adds the delta and sends the new level, ending in IDLE at exactly 0; at or below 0 it
goes to IDLE and sends nothing (R89). -/
def Obligations.VcaReleaseStepEndsAtZero : Prop :=
  ∀ s : State, s.p = 2 → s.vca.state = .release →
    let level := s.vca.currentLevel + s.vca.perTickDelta
    ∃ t : State, exec .tick s = .next t ∧
      (s.vca.currentLevel ≤ 0 → Silent s t ∧ t.vca = { s.vca with state := .idle }) ∧
      (0 < s.vca.currentLevel → level ≤ 0 →
        Sent .vcaLevel 0 s t ∧ t.vca = { s.vca with state := .idle, currentLevel := 0 }) ∧
      (0 < s.vca.currentLevel → 0 < level →
        Sent .vcaLevel ⌊level * (s.params.vcaFullScale : ℚ)⌋ s t ∧ t.vca = { s.vca with currentLevel := level })

/-- A VCF ATTACK step sends the level before the addition with the keyboard shift, adds the delta and counts, and when
the budget is reached turns to DECAY with the target, budget and delta of R91. -/
def Obligations.VcfAttackStepEmitsThenAdds : Prop :=
  ∀ s : State, s.p = 3 → s.vcf.state = .attack →
    let level := s.vcf.currentLevel + s.vcf.perTickDelta
    let target := s.glob.vcfCutoff + (s.vcf.targetLevel - s.glob.vcfCutoff) * s.cfgVcf.sustainLevel
    let budget : ℕ := max 1 ⌊s.cfgVcf.decayTimeMs / tickPeriodMs s.params⌋.toNat
    ∃ t : State, exec .tick s = .next t ∧
      Sent .vcfCutoff ⌊s.vcf.currentLevel + s.vcf.keyboardShift⌋ s t ∧
      (s.vcf.ticksToTarget ≤ s.vcf.elapsedTicks + 1 → t.vcf =
        { state := .decay, currentLevel := level, targetLevel := target
          perTickDelta := (target - level) / (budget : ℚ)
          elapsedTicks := 0, ticksToTarget := budget, keyboardShift := s.vcf.keyboardShift }) ∧
      (s.vcf.elapsedTicks + 1 < s.vcf.ticksToTarget →
        t.vcf = { s.vcf with currentLevel := level, elapsedTicks := s.vcf.elapsedTicks + 1 })

/-- A VCF DECAY step within its budget adds the delta and counts, lands on the target with the last step, and sends
the new level with the keyboard shift (R92). -/
def Obligations.VcfDecayStepAddsThenEmits : Prop :=
  ∀ s : State, s.p = 3 → s.vcf.state = .decay → s.vcf.elapsedTicks < s.vcf.ticksToTarget →
    let level := if s.vcf.elapsedTicks + 1 = s.vcf.ticksToTarget then s.vcf.targetLevel
      else s.vcf.currentLevel + s.vcf.perTickDelta
    ∃ t : State, exec .tick s = .next t ∧ Sent .vcfCutoff ⌊level + s.vcf.keyboardShift⌋ s t ∧
      t.vcf = { s.vcf with currentLevel := level, elapsedTicks := s.vcf.elapsedTicks + 1 }

/-- A VCF RELEASE step within its budget adds the delta, counts and sends the new level with the keyboard shift, its
last step ending in IDLE on the target; past its budget it goes to IDLE and sends nothing (R93). -/
def Obligations.VcfReleaseStepEndsAtTheTarget : Prop :=
  ∀ s : State, s.p = 3 → s.vcf.state = .release →
    ∃ t : State, exec .tick s = .next t ∧
      (s.vcf.ticksToTarget ≤ s.vcf.elapsedTicks → Silent s t ∧ t.vcf = { s.vcf with state := .idle }) ∧
      (s.vcf.elapsedTicks + 1 = s.vcf.ticksToTarget →
        Sent .vcfCutoff ⌊s.vcf.targetLevel + s.vcf.keyboardShift⌋ s t ∧
        t.vcf = { s.vcf with
          state := .idle, currentLevel := s.vcf.targetLevel, elapsedTicks := s.vcf.elapsedTicks + 1 }) ∧
      (s.vcf.elapsedTicks + 1 < s.vcf.ticksToTarget →
        Sent .vcfCutoff ⌊s.vcf.currentLevel + s.vcf.perTickDelta + s.vcf.keyboardShift⌋ s t ∧
        t.vcf = { s.vcf with
          currentLevel := s.vcf.currentLevel + s.vcf.perTickDelta, elapsedTicks := s.vcf.elapsedTicks + 1 })

/-! ### Rules of the whole machine -/

/-- No event writes the parameters, and none takes or adds an event of the environment (R17, R42, R138). -/
def Obligations.NoEventWritesTheParameters : Prop :=
  ∀ (i : Instr) (s t : State), exec i s = .next t → t.params = s.params ∧ t.inbox = s.inbox

/-- Only TICK and RESET write the phase counter (R16, R34). -/
def Obligations.OnlyTickAndResetWriteThePhase : Prop :=
  ∀ (i : Instr) (s t : State), exec i s = .next t → t.p ≠ s.p → i = .tick ∨ i = .reset

/-- Only a non-drum NOTE_ON and RESET write the stored note (R30). -/
def Obligations.OnlyNoteOnAndResetWriteTheNote : Prop :=
  ∀ (i : Instr) (s t : State), exec i s = .next t → t.midi ≠ s.midi → isNoteOn i = true ∨ i = .reset

/-- Only a completion or a RESET takes a busy gate back to free (R35, R79). -/
def Obligations.OnlyDoneAndResetFreeTheGate : Prop :=
  ∀ (i : Instr) (s t : State), exec i s = .next t → s.busy = true → t.busy = false → isDone i = true ∨ i = .reset

/-- The fault counter never goes down but by RESET, and goes up by at most one, only in a tick that finds the gate
busy (R37, R122, R126). -/
def Obligations.FaultCounterIsSticky : Prop :=
  ∀ (i : Instr) (s t : State), exec i s = .next t → i ≠ .reset →
    s.overlapFaults ≤ 2 ^ s.params.faultCtrWidth - 1 →
    t.overlapFaults = s.overlapFaults ∨
      (i = .tick ∧ s.busy = true ∧ t.overlapFaults = s.overlapFaults + 1 ∧
        s.overlapFaults < 2 ^ s.params.faultCtrWidth - 1)

/-- The transitions of both envelopes are those of R80, and no other, but for RESET, which loads IDLE (R138). -/
def Obligations.EnvelopesMoveOnlyAsTheTransitionTableSays : Prop :=
  ∀ (i : Instr) (s t : State), exec i s = .next t → i ≠ .reset →
    (isNoteOn i = true → t.vca.state = .attack ∧ t.vcf.state = .attack) ∧
    (isNoteOff i = true → t.vca.state = .release ∧ t.vcf.state = .release) ∧
    (isNoteOn i = false → isNoteOff i = false → t.vca.state ≠ s.vca.state →
      i = .tick ∧ s.p = 2 ∧ ((s.vca.state = .attack ∧ t.vca.state = .decay) ∨ (s.vca.state = .release ∧ t.vca.state = .idle))) ∧
    (isNoteOn i = false → isNoteOff i = false → t.vcf.state ≠ s.vcf.state →
      i = .tick ∧ s.p = 3 ∧ ((s.vcf.state = .attack ∧ t.vcf.state = .decay) ∨ (s.vcf.state = .release ∧ t.vcf.state = .idle)))

/-- An event only appends to the trace; it appends at most one Transmit, in a tick that finds the gate free, and that
Transmit is the last thing appended and leaves the gate busy with its bank asserted (R52, R53, R76, R113). -/
def Obligations.TransmitOnlyThroughAFreeGate : Prop :=
  ∀ (i : Instr) (s t : State), exec i s = .next t →
    ∃ triggers sent, t.trace = s.trace ++ triggers ++ sent ∧ (∀ x ∈ triggers, ∃ v l, x = .setTrigger v l) ∧
      (sent = [] ∨ ∃ b w, sent = [.transmit b w] ∧ i = .tick ∧ s.busy = false ∧ t.busy = true ∧ t.bankSel = some b)

/-- What no operation reads does not reach anything else: two states that differ only in the auxiliary parameters and
the resonance still differ only there after the same event (R23, R24). -/
def Obligations.UnreadRegistersReachNothing : Prop :=
  ∀ (i : Instr) (s s' t t' : State), eraseUnread s = eraseUnread s' → exec i s = .next t → exec i s' = .next t' →
    eraseUnread t = eraseUnread t'

/-! ### Invariants -/

/-- Every step of the machine keeps the invariant. -/
def Obligations.StepKeepsTheInvariant : Prop :=
  ∀ s t : State, Inv s → step s = .next t → Inv t

/-- The machine right after reset meets the invariant; it is built with TC (the model's choice, log entry 1). -/
def Obligations.ResetMeetsTheInvariant : Prop := Inv State.reset

/-- Whatever construction builds meets the invariant (R123, R138). -/
def Obligations.ConstructionMeetsTheInvariant : Prop :=
  ∀ (p : Params) (s : State), construct p = .ok s → Inv s

/-- Construction builds a block, in its reset state, exactly from the sets that meet every constraint of R9, R43 and
R72, and otherwise answers the first defect in the order of the codes 16, 17, 18, 19; in a built block each of the four
outputs resolves to an existing destination (R72, R121, R123). The model's readings in this: reset times have no upper
bound and a mapped mixer input is tested too (log entry 16), and of two pairs with one key the first counts (log
entry 2). -/
def Obligations.ConstructionRejectsDefects : Prop :=
  (defectCode .zeroTime = 16 ∧ defectCode .addrMap = 17 ∧ defectCode .table = 18 ∧ defectCode .param = 19) ∧
  ∀ p : Params,
    (ResetTimesSound p → AddrMapSound p → NoteTableSound p.tableA → NoteTableSound p.tableB → ParamsSound p →
      ∃ s, construct p = .ok s ∧ s.params = p ∧ s.inbox = [] ∧ s.trace = [] ∧ exec .reset s = .next s) ∧
    (¬ ResetTimesSound p → construct p = .error .zeroTime) ∧
    (ResetTimesSound p → ¬ AddrMapSound p → construct p = .error .addrMap) ∧
    (ResetTimesSound p → AddrMapSound p → ¬ (NoteTableSound p.tableA ∧ NoteTableSound p.tableB) →
      construct p = .error .table) ∧
    (ResetTimesSound p → AddrMapSound p → NoteTableSound p.tableA → NoteTableSound p.tableB → ¬ ParamsSound p →
      construct p = .error .param) ∧
    ∀ s, construct p = .ok s →
      ResetTimesSound p ∧ AddrMapSound p ∧ NoteTableSound p.tableA ∧ NoteTableSound p.tableB ∧ ParamsSound p ∧
      ∀ o ∈ ([.vcoAPitch, .vcoBPitch, .vcaLevel, .vcfCutoff] : List LogicalOutput),
        (resolve p o).bank < p.nBanks ∧ (resolve p o).sub ≤ 1

/-- In a block that was built, a note-table read outside 36..71 gives 0, also above 127, and inside the codes do not
decrease and stay at most 4095 (R43, R44). -/
def Obligations.NoteLookupIsZeroOutsideTheRange : Prop :=
  ∀ (p : Params) (s : State), construct p = .ok s → ∀ table ∈ [p.tableA, p.tableB],
    (∀ n : Byte, n.toNat < 36 ∨ 71 < n.toNat → lookupNote table n = 0) ∧
    (∀ n m : Byte, 36 ≤ n.toNat → n.toNat ≤ m.toNat → m.toNat ≤ 71 → lookupNote table n ≤ lookupNote table m) ∧
    ∀ n : Byte, lookupNote table n ≤ 4095

/-- The velocity factor is in [0, 1] for a sensitivity in [0, 1]; it is 1 at sensitivity 0 and `vel/127` at
sensitivity 1 (R83). -/
def Obligations.VelocityFactorIsInTheUnitInterval : Prop :=
  ∀ (sens : ℚ) (vel : Byte),
    velocityFactor sens vel = (1 - sens) + ((min vel.toNat 127 : ℕ) : ℚ) / 127 * sens ∧
    (0 ≤ sens → sens ≤ 1 → 0 ≤ velocityFactor sens vel ∧ velocityFactor sens vel ≤ 1) ∧
    velocityFactor 0 vel = 1 ∧ velocityFactor 1 vel = ((min vel.toNat 127 : ℕ) : ℚ) / 127

/-! ### Legs and runs -/

/-- After a note-on the VCF takes exactly its attack budget of steps to DECAY, on the line from the level held at the
note-on to that level plus target minus baseline; then exactly its decay budget of steps, counted one by one, on the
line to the sustain level relative to the baseline, where it stays in DECAY with the counter at the budget (R98, R91,
R92, R152). -/
def Obligations.VcfAttackAndDecayTakeTheirBudgets : Prop :=
  ∀ (ch : Nibble) (n v : Byte) (s t : State), exec (.noteOn ch n v) s = .next t →
    let a : ℕ := max 1 ⌊s.cfgVcf.attackTimeMs / tickPeriodMs s.params⌋.toNat
    let d : ℕ := max 1 ⌊s.cfgVcf.decayTimeMs / tickPeriodMs s.params⌋.toNat
    let rise : ℚ := t.vcf.targetLevel - s.glob.vcfCutoff
    let sustain : ℚ := s.glob.vcfCutoff + rise * s.cfgVcf.sustainLevel
    (∀ m < a, (vcfStep^[m] t).vcf.state = .attack ∧ (vcfStep^[m] t).vcf.elapsedTicks = m ∧
      (vcfStep^[m] t).vcf.currentLevel = s.vcf.currentLevel + (m : ℚ) / (a : ℚ) * rise) ∧
    (vcfStep^[a] t).vcf.state = .decay ∧
    (vcfStep^[a] t).vcf.currentLevel = s.vcf.currentLevel + rise ∧
    (∀ m, (vcfStep^[a + m] t).vcf.state = .decay ∧ (vcfStep^[a + m] t).vcf.ticksToTarget = d ∧
      (vcfStep^[a + m] t).vcf.elapsedTicks = min m d) ∧
    (∀ m ≤ d, (vcfStep^[a + m] t).vcf.currentLevel =
      (s.vcf.currentLevel + rise) + (m : ℚ) / (d : ℚ) * (sustain - (s.vcf.currentLevel + rise))) ∧
    ∀ m, (vcfStep^[a + d + m] t).vcf.currentLevel = sustain

/-- After a note-off the VCF is in RELEASE for exactly its release budget of steps, on the line from the level held at
the note-off, and then IDLE at the cutoff of the note-off (R97, R98). -/
def Obligations.VcfReleaseTakesItsBudget : Prop :=
  ∀ (ch : Nibble) (n v : Byte) (s t : State), exec (.noteOff ch n v) s = .next t →
    let r : ℕ := max 1 ⌊s.cfgVcf.releaseTimeMs / tickPeriodMs s.params⌋.toNat
    (∀ m < r, (vcfStep^[m] t).vcf.state = .release ∧
      (vcfStep^[m] t).vcf.currentLevel =
        s.vcf.currentLevel + (m : ℚ) / (r : ℚ) * (s.glob.vcfCutoff - s.vcf.currentLevel)) ∧
    ∀ m, (vcfStep^[r + m] t).vcf.state = .idle ∧ (vcfStep^[r + m] t).vcf.currentLevel = s.glob.vcfCutoff

/-- After a note-on from a level at or above 0 the VCA is in DECAY within `ceil(attackTimeMs/TICK_PERIOD_MS)` steps of
its own, and in ATTACK until then (R98). -/
def Obligations.VcaAttackEndsWithinItsTime : Prop :=
  ∀ (ch : Nibble) (n v : Byte) (s t : State), exec (.noteOn ch n v) s = .next t →
    0 < tickPeriodMs s.params → 0 < s.cfgVca.attackTimeMs → 0 ≤ s.vca.currentLevel →
    0 ≤ s.cfgVca.velocitySensitivity → s.cfgVca.velocitySensitivity ≤ 1 →
    ∃ m : ℕ, 1 ≤ m ∧ (m : ℤ) ≤ ⌈s.cfgVca.attackTimeMs / tickPeriodMs s.params⌉ ∧
      (∀ j < m, (vcaStep^[j] t).vca.state = .attack) ∧ (vcaStep^[m] t).vca.state = .decay

/-- After a note-on from level 0 and no further trigger, the VCA level stays at most the target plus one attack delta
(R99). -/
def Obligations.VcaLevelFromRestIsBounded : Prop :=
  ∀ (ch : Nibble) (n v : Byte) (s t : State), exec (.noteOn ch n v) s = .next t →
    0 < tickPeriodMs s.params → 0 < s.cfgVca.attackTimeMs → 0 < s.cfgVca.decayTimeMs → s.vca.currentLevel = 0 →
    0 ≤ s.cfgVca.velocitySensitivity → s.cfgVca.velocitySensitivity ≤ 1 →
    0 ≤ s.cfgVca.sustainLevel → s.cfgVca.sustainLevel ≤ 1 →
    ∀ m : ℕ, (vcaStep^[m] t).vca.currentLevel ≤
      velocityFactor s.cfgVca.velocitySensitivity v +
        tickPeriodMs s.params * velocityFactor s.cfgVca.velocitySensitivity v / s.cfgVca.attackTimeMs

/-- A VCA that enters DECAY at or above its decay target is on the target from `ceil(decayTimeMs/TICK_PERIOD_MS)` steps
of its own on, and stays in DECAY (R88, R98). -/
def Obligations.VcaDecayReachesTheSustainLevel : Prop :=
  ∀ s : State, 0 < tickPeriodMs s.params → 0 < s.cfgVca.decayTimeMs →
    s.vca.state = .decay → s.vca.targetLevel ≤ s.vca.currentLevel →
    s.vca.perTickDelta = (s.vca.targetLevel - s.vca.currentLevel) * tickPeriodMs s.params / s.cfgVca.decayTimeMs →
    ∀ m : ℕ, ⌈s.cfgVca.decayTimeMs / tickPeriodMs s.params⌉ ≤ (m : ℤ) →
      (vcaStep^[m] s).vca.state = .decay ∧ (vcaStep^[m] s).vca.currentLevel = s.vca.targetLevel

/-- After a note-off from a level at or above 0 the VCA is in IDLE at exactly 0 from
`max(1, ceil(releaseTimeMs/TICK_PERIOD_MS))` steps of its own on (R89, R98). -/
def Obligations.VcaReleaseReachesRest : Prop :=
  ∀ (ch : Nibble) (n v : Byte) (s t : State), exec (.noteOff ch n v) s = .next t →
    0 < tickPeriodMs s.params → 0 < s.cfgVca.releaseTimeMs → 0 ≤ s.vca.currentLevel →
    ∀ m : ℕ, max 1 ⌈s.cfgVca.releaseTimeMs / tickPeriodMs s.params⌉ ≤ (m : ℤ) →
      (vcaStep^[m] t).vca.state = .idle ∧ (vcaStep^[m] t).vca.currentLevel = 0

/-- A run of `n` ticks advances the phase by `n` modulo K; so K ticks bring it back to its start value, and after
RESET the first tick is one of phase 0 (R119). -/
def Obligations.PhaseReturnsAfterKTicks : Prop :=
  (∀ (n : ℕ) (s : State) (rest : List EventWord), defect s.params = none → s.p < s.params.k →
    s.inbox = List.replicate n tickWord ++ rest →
    ∃ t : State, Host.Core.run Sys2Proof.core n s = .next t ∧ t.inbox = rest ∧ t.p = (s.p + n) % s.params.k ∧
      (n = s.params.k → t.p = s.p)) ∧
  ∀ s t : State, exec .reset s = .next t → t.p = 0

/-- K ticks in a row, whatever the phase they start at and whatever the gate does, step each envelope exactly once
(R117, R120). -/
def Obligations.KTicksStepEachEnvelopeOnce : Prop :=
  ∀ (s : State) (rest : List EventWord), defect s.params = none → s.p < s.params.k →
    s.inbox = List.replicate s.params.k tickWord ++ rest →
    ∃ t : State, Host.Core.run Sys2Proof.core s.params.k s = .next t ∧
      t.vca = (vcaStep s).vca ∧ t.vcf = (vcfStep s).vcf ∧ t.p = s.p ∧ t.midi = s.midi

/-- The first two ticks after a RESET, each transfer completed before the next tick, send code 0 to the two pitch
outputs (R143). -/
def Obligations.FirstTicksAfterResetSendCodeZero : Prop :=
  ∀ s u : State, defect s.params = none → exec .reset s = .next u →
    ∃ v w : State, runScript [.step, .step] u = .next w ∧ exec .tick u = .next v ∧ Sent .vcoAPitch 0 u v ∧
      w.trace = v.trace ++
        [.transmit (resolve s.params .vcoBPitch).bank
          (wireWord s.params 0 (resolve s.params .vcoBPitch).sub (resolve s.params .vcoBPitch).gain)] ∧
      w.busy = false ∧ w.overlapFaults = 0

/-- A drum note-on on a mapped note and then `n ≤ P` ticks with no re-arm leave the voice's countdown at P − n, and its
line active while `n < P` and idle at `n = P` (R104, R112). -/
def Obligations.DrumPulseLastsExactlyPTicks : Prop :=
  ∀ (n v : ℕ) (ch : Nibble) (note vel : Byte) (e : EventWord) (s : State) (rest : List EventWord),
    defect s.params = none → s.drumCount.length = s.params.nDrum → s.trig.length = s.params.nDrum →
    decode s.params e = .drumNoteOn ch note vel → s.params.drumNoteMap.lookup note = some v →
    n ≤ s.params.drumPulse → s.inbox = e :: (List.replicate n tickWord ++ rest) →
    ∃ t : State, Host.Core.run Sys2Proof.core (n + 1) s = .next t ∧ t.inbox = rest ∧
      t.drumCount[v]? = some (s.params.drumPulse - n) ∧
      t.trig[v]? = some (if n = s.params.drumPulse then TrigLevel.idleLvl else TrigLevel.activeLvl)

/-- With the completion lost, whatever the environment presents but DONE and RESET, the gate stays busy with its bank
asserted and no Transmit is issued (R79, R141). -/
def Obligations.LostCompletionBlocksTheLink : Prop :=
  ∀ (n : ℕ) (s t : State), s.busy = true →
    (∀ e ∈ s.inbox.take n, eventTag e = 0#2 ∨ eventTag e = 1#2) →
    Host.Core.run Sys2Proof.core n s = .next t →
    t.busy = true ∧ t.bankSel = s.bankSel ∧ ∃ new, t.trace = s.trace ++ new ∧ ∀ x ∈ new, ∃ v l, x = .setTrigger v l

/-- With every transfer completed before the next tick, no write ever finds the gate busy: a script whose ticks are all
`STEP`s, run from a free gate with no fault counted, ends with a free gate and no fault counted (R140). -/
def Obligations.TimelyCompletionNeverOverlaps : Prop :=
  ∀ (ls : List ScriptLine) (s : State), defect s.params = none → ls.all timelyLine = true →
    s.busy = false → noOverlap s → ∃ t : State, runScript ls s = .next t ∧ t.busy = false ∧ noOverlap t
end

