-- ==== Sys2Proof/Laws/Decode.lean ====
section
/-! SUPPORT. The fields of encoded words and the words of decoded fields. -/

namespace Sys2Proof

/-- Every bit of a `DISPATCH` word is a bit of one of its four fields (rules R58, R59). -/
theorem getLsbD_dispatchWord (k ch : Nibble) (d1 d2 : Byte) (i : Nat) :
    (dispatchWord k ch d1 d2).getLsbD i =
      if i < 8 then d2.getLsbD i else if i < 16 then d1.getLsbD (i - 8)
      else if i < 20 then ch.getLsbD (i - 16) else if i < 24 then k.getLsbD (i - 20) else false := by
  simp only [dispatchWord, BitVec.getLsbD_append, Nat.sub_sub]
  split_ifs <;> first | rfl | omega | simp

/-- Every bit of a `DONE` word (rule R58). -/
theorem getLsbD_doneWord (b : Byte) (i : Nat) :
    (doneWord b).getLsbD i = if i < 8 then b.getLsbD i else decide (i = 25) := by
  simp only [doneWord, BitVec.getLsbD_append, Nat.sub_sub]
  by_cases h2 : i < 26
  · interval_cases i <;> simp
  · have h3 : ¬ i < 8 := by omega
    have h4 : ¬ i - 8 < 16 := by omega
    have h5 : i ≠ 25 := by omega
    simp only [h3, h4, h5, if_false, decide_false]
    exact BitVec.getLsbD_of_ge _ _ (by omega)

@[simp] theorem eventTag_dispatchWord (k ch : Nibble) (d1 d2 : Byte) : eventTag (dispatchWord k ch d1 d2) = 0#2 := by
  apply BitVec.eq_of_getLsbD_eq
  intro i hi
  simp only [eventTag, BitVec.getLsbD_extractLsb', getLsbD_dispatchWord]
  interval_cases i <;> simp

@[simp] theorem eventKind_dispatchWord (k ch : Nibble) (d1 d2 : Byte) : eventKind (dispatchWord k ch d1 d2) = k := by
  apply BitVec.eq_of_getLsbD_eq
  intro i hi
  simp only [eventKind, BitVec.getLsbD_extractLsb', getLsbD_dispatchWord]
  interval_cases i <;> simp

@[simp] theorem eventChannel_dispatchWord (k ch : Nibble) (d1 d2 : Byte) : eventChannel (dispatchWord k ch d1 d2) = ch := by
  apply BitVec.eq_of_getLsbD_eq
  intro i hi
  simp only [eventChannel, BitVec.getLsbD_extractLsb', getLsbD_dispatchWord]
  interval_cases i <;> simp

@[simp] theorem eventData1_dispatchWord (k ch : Nibble) (d1 d2 : Byte) : eventData1 (dispatchWord k ch d1 d2) = d1 := by
  apply BitVec.eq_of_getLsbD_eq
  intro i hi
  simp only [eventData1, BitVec.getLsbD_extractLsb', getLsbD_dispatchWord]
  interval_cases i <;> simp

@[simp] theorem eventData2_dispatchWord (k ch : Nibble) (d1 d2 : Byte) : eventData2 (dispatchWord k ch d1 d2) = d2 := by
  apply BitVec.eq_of_getLsbD_eq
  intro i hi
  simp only [eventData2, BitVec.getLsbD_extractLsb', getLsbD_dispatchWord]
  interval_cases i <;> simp

@[simp] theorem eventTag_doneWord (b : Byte) : eventTag (doneWord b) = 2#2 := by
  apply BitVec.eq_of_getLsbD_eq
  intro i hi
  simp only [eventTag, BitVec.getLsbD_extractLsb', getLsbD_doneWord]
  interval_cases i <;> simp

@[simp] theorem eventData2_doneWord (b : Byte) : eventData2 (doneWord b) = b := by
  apply BitVec.eq_of_getLsbD_eq
  intro i hi
  simp only [eventData2, BitVec.getLsbD_extractLsb', getLsbD_doneWord]
  interval_cases i <;> simp

@[simp] theorem eventTag_tickWord : eventTag tickWord = 1#2 := by decide

@[simp] theorem eventTag_resetWord : eventTag resetWord = 3#2 := by decide

/-- The word of three message bytes is the word of the status byte's two halves and the data bytes (rule R59). -/
theorem messageWord_eq (s d1 d2 : Byte) :
    messageWord s d1 d2 = dispatchWord (s.extractLsb' 4 4) (s.extractLsb' 0 4) d1 d2 := by
  apply BitVec.eq_of_getLsbD_eq
  intro i hi
  simp only [messageWord, BitVec.getLsbD_append, getLsbD_dispatchWord, BitVec.getLsbD_extractLsb', Nat.sub_sub]
  interval_cases i <;> simp

/-- A `DISPATCH` word is the word of its own fields. -/
theorem dispatchWord_fields (e : EventWord) (h : eventTag e = 0#2) :
    dispatchWord (eventKind e) (eventChannel e) (eventData1 e) (eventData2 e) = e := by
  have h0 : ∀ j, j < 2 → e.getLsbD (24 + j) = false := fun j hj => by
    have := congrArg (fun x => x.getLsbD j) h
    simpa [eventTag, BitVec.getLsbD_extractLsb', hj] using this
  apply BitVec.eq_of_getLsbD_eq
  intro i hi
  simp only [eventKind, eventChannel, eventData1, eventData2, getLsbD_dispatchWord, BitVec.getLsbD_extractLsb']
  have h1 := h0 0 (by omega)
  have h2 := h0 1 (by omega)
  interval_cases i <;> simp_all

/-- Masking a `DISPATCH` word masks each field. -/
theorem dispatchWord_and (k ch km chm : Nibble) (d1 d2 m1 m2 : Byte) :
    dispatchWord k ch d1 d2 &&& (3#2 ++ km ++ chm ++ m1 ++ m2) =
      dispatchWord (k &&& km) (ch &&& chm) (d1 &&& m1) (d2 &&& m2) := by
  apply BitVec.eq_of_getLsbD_eq
  intro i hi
  simp only [BitVec.getLsbD_and, getLsbD_dispatchWord, BitVec.getLsbD_append, Nat.sub_sub]
  interval_cases i <;> simp

end Sys2Proof
end

