-- ==== Sys2Proof/Laws/State.lean ====
section
/-! SUPPORT. The fields of the state after each named update: one lemma per field per update. -/

namespace Sys2Proof.Machine

@[simp] theorem State.setCfgVca_cfgVca (s : State) (c : EnvConfig) : (s.setCfgVca c).cfgVca = c := rfl
@[simp] theorem State.setCfgVca_cfgVcf (s : State) (c : EnvConfig) : (s.setCfgVca c).cfgVcf = s.cfgVcf := rfl
@[simp] theorem State.setCfgVca_glob (s : State) (c : EnvConfig) : (s.setCfgVca c).glob = s.glob := rfl
@[simp] theorem State.setCfgVca_aux (s : State) (c : EnvConfig) : (s.setCfgVca c).aux = s.aux := rfl
@[simp] theorem State.setCfgVca_vca (s : State) (c : EnvConfig) : (s.setCfgVca c).vca = s.vca := rfl
@[simp] theorem State.setCfgVca_vcf (s : State) (c : EnvConfig) : (s.setCfgVca c).vcf = s.vcf := rfl
@[simp] theorem State.setCfgVca_midi (s : State) (c : EnvConfig) : (s.setCfgVca c).midi = s.midi := rfl
@[simp] theorem State.setCfgVca_drumCount (s : State) (c : EnvConfig) : (s.setCfgVca c).drumCount = s.drumCount := rfl
@[simp] theorem State.setCfgVca_trig (s : State) (c : EnvConfig) : (s.setCfgVca c).trig = s.trig := rfl
@[simp] theorem State.setCfgVca_p (s : State) (c : EnvConfig) : (s.setCfgVca c).p = s.p := rfl
@[simp] theorem State.setCfgVca_busy (s : State) (c : EnvConfig) : (s.setCfgVca c).busy = s.busy := rfl
@[simp] theorem State.setCfgVca_bankSel (s : State) (c : EnvConfig) : (s.setCfgVca c).bankSel = s.bankSel := rfl
@[simp] theorem State.setCfgVca_overlapFaults (s : State) (c : EnvConfig) : (s.setCfgVca c).overlapFaults = s.overlapFaults := rfl
@[simp] theorem State.setCfgVca_params (s : State) (c : EnvConfig) : (s.setCfgVca c).params = s.params := rfl
@[simp] theorem State.setCfgVca_inbox (s : State) (c : EnvConfig) : (s.setCfgVca c).inbox = s.inbox := rfl
@[simp] theorem State.setCfgVca_trace (s : State) (c : EnvConfig) : (s.setCfgVca c).trace = s.trace := rfl

@[simp] theorem State.setCfgVcf_cfgVca (s : State) (c : VcfConfig) : (s.setCfgVcf c).cfgVca = s.cfgVca := rfl
@[simp] theorem State.setCfgVcf_cfgVcf (s : State) (c : VcfConfig) : (s.setCfgVcf c).cfgVcf = c := rfl
@[simp] theorem State.setCfgVcf_glob (s : State) (c : VcfConfig) : (s.setCfgVcf c).glob = s.glob := rfl
@[simp] theorem State.setCfgVcf_aux (s : State) (c : VcfConfig) : (s.setCfgVcf c).aux = s.aux := rfl
@[simp] theorem State.setCfgVcf_vca (s : State) (c : VcfConfig) : (s.setCfgVcf c).vca = s.vca := rfl
@[simp] theorem State.setCfgVcf_vcf (s : State) (c : VcfConfig) : (s.setCfgVcf c).vcf = s.vcf := rfl
@[simp] theorem State.setCfgVcf_midi (s : State) (c : VcfConfig) : (s.setCfgVcf c).midi = s.midi := rfl
@[simp] theorem State.setCfgVcf_drumCount (s : State) (c : VcfConfig) : (s.setCfgVcf c).drumCount = s.drumCount := rfl
@[simp] theorem State.setCfgVcf_trig (s : State) (c : VcfConfig) : (s.setCfgVcf c).trig = s.trig := rfl
@[simp] theorem State.setCfgVcf_p (s : State) (c : VcfConfig) : (s.setCfgVcf c).p = s.p := rfl
@[simp] theorem State.setCfgVcf_busy (s : State) (c : VcfConfig) : (s.setCfgVcf c).busy = s.busy := rfl
@[simp] theorem State.setCfgVcf_bankSel (s : State) (c : VcfConfig) : (s.setCfgVcf c).bankSel = s.bankSel := rfl
@[simp] theorem State.setCfgVcf_overlapFaults (s : State) (c : VcfConfig) : (s.setCfgVcf c).overlapFaults = s.overlapFaults := rfl
@[simp] theorem State.setCfgVcf_params (s : State) (c : VcfConfig) : (s.setCfgVcf c).params = s.params := rfl
@[simp] theorem State.setCfgVcf_inbox (s : State) (c : VcfConfig) : (s.setCfgVcf c).inbox = s.inbox := rfl
@[simp] theorem State.setCfgVcf_trace (s : State) (c : VcfConfig) : (s.setCfgVcf c).trace = s.trace := rfl

@[simp] theorem State.setGlob_cfgVca (s : State) (g : GlobalParams) : (s.setGlob g).cfgVca = s.cfgVca := rfl
@[simp] theorem State.setGlob_cfgVcf (s : State) (g : GlobalParams) : (s.setGlob g).cfgVcf = s.cfgVcf := rfl
@[simp] theorem State.setGlob_glob (s : State) (g : GlobalParams) : (s.setGlob g).glob = g := rfl
@[simp] theorem State.setGlob_aux (s : State) (g : GlobalParams) : (s.setGlob g).aux = s.aux := rfl
@[simp] theorem State.setGlob_vca (s : State) (g : GlobalParams) : (s.setGlob g).vca = s.vca := rfl
@[simp] theorem State.setGlob_vcf (s : State) (g : GlobalParams) : (s.setGlob g).vcf = s.vcf := rfl
@[simp] theorem State.setGlob_midi (s : State) (g : GlobalParams) : (s.setGlob g).midi = s.midi := rfl
@[simp] theorem State.setGlob_drumCount (s : State) (g : GlobalParams) : (s.setGlob g).drumCount = s.drumCount := rfl
@[simp] theorem State.setGlob_trig (s : State) (g : GlobalParams) : (s.setGlob g).trig = s.trig := rfl
@[simp] theorem State.setGlob_p (s : State) (g : GlobalParams) : (s.setGlob g).p = s.p := rfl
@[simp] theorem State.setGlob_busy (s : State) (g : GlobalParams) : (s.setGlob g).busy = s.busy := rfl
@[simp] theorem State.setGlob_bankSel (s : State) (g : GlobalParams) : (s.setGlob g).bankSel = s.bankSel := rfl
@[simp] theorem State.setGlob_overlapFaults (s : State) (g : GlobalParams) : (s.setGlob g).overlapFaults = s.overlapFaults := rfl
@[simp] theorem State.setGlob_params (s : State) (g : GlobalParams) : (s.setGlob g).params = s.params := rfl
@[simp] theorem State.setGlob_inbox (s : State) (g : GlobalParams) : (s.setGlob g).inbox = s.inbox := rfl
@[simp] theorem State.setGlob_trace (s : State) (g : GlobalParams) : (s.setGlob g).trace = s.trace := rfl

@[simp] theorem State.setAux_cfgVca (s : State) (a : AuxParams) : (s.setAux a).cfgVca = s.cfgVca := rfl
@[simp] theorem State.setAux_cfgVcf (s : State) (a : AuxParams) : (s.setAux a).cfgVcf = s.cfgVcf := rfl
@[simp] theorem State.setAux_glob (s : State) (a : AuxParams) : (s.setAux a).glob = s.glob := rfl
@[simp] theorem State.setAux_aux (s : State) (a : AuxParams) : (s.setAux a).aux = a := rfl
@[simp] theorem State.setAux_vca (s : State) (a : AuxParams) : (s.setAux a).vca = s.vca := rfl
@[simp] theorem State.setAux_vcf (s : State) (a : AuxParams) : (s.setAux a).vcf = s.vcf := rfl
@[simp] theorem State.setAux_midi (s : State) (a : AuxParams) : (s.setAux a).midi = s.midi := rfl
@[simp] theorem State.setAux_drumCount (s : State) (a : AuxParams) : (s.setAux a).drumCount = s.drumCount := rfl
@[simp] theorem State.setAux_trig (s : State) (a : AuxParams) : (s.setAux a).trig = s.trig := rfl
@[simp] theorem State.setAux_p (s : State) (a : AuxParams) : (s.setAux a).p = s.p := rfl
@[simp] theorem State.setAux_busy (s : State) (a : AuxParams) : (s.setAux a).busy = s.busy := rfl
@[simp] theorem State.setAux_bankSel (s : State) (a : AuxParams) : (s.setAux a).bankSel = s.bankSel := rfl
@[simp] theorem State.setAux_overlapFaults (s : State) (a : AuxParams) : (s.setAux a).overlapFaults = s.overlapFaults := rfl
@[simp] theorem State.setAux_params (s : State) (a : AuxParams) : (s.setAux a).params = s.params := rfl
@[simp] theorem State.setAux_inbox (s : State) (a : AuxParams) : (s.setAux a).inbox = s.inbox := rfl
@[simp] theorem State.setAux_trace (s : State) (a : AuxParams) : (s.setAux a).trace = s.trace := rfl

@[simp] theorem State.setVca_cfgVca (s : State) (r : VcaRuntime) : (s.setVca r).cfgVca = s.cfgVca := rfl
@[simp] theorem State.setVca_cfgVcf (s : State) (r : VcaRuntime) : (s.setVca r).cfgVcf = s.cfgVcf := rfl
@[simp] theorem State.setVca_glob (s : State) (r : VcaRuntime) : (s.setVca r).glob = s.glob := rfl
@[simp] theorem State.setVca_aux (s : State) (r : VcaRuntime) : (s.setVca r).aux = s.aux := rfl
@[simp] theorem State.setVca_vca (s : State) (r : VcaRuntime) : (s.setVca r).vca = r := rfl
@[simp] theorem State.setVca_vcf (s : State) (r : VcaRuntime) : (s.setVca r).vcf = s.vcf := rfl
@[simp] theorem State.setVca_midi (s : State) (r : VcaRuntime) : (s.setVca r).midi = s.midi := rfl
@[simp] theorem State.setVca_drumCount (s : State) (r : VcaRuntime) : (s.setVca r).drumCount = s.drumCount := rfl
@[simp] theorem State.setVca_trig (s : State) (r : VcaRuntime) : (s.setVca r).trig = s.trig := rfl
@[simp] theorem State.setVca_p (s : State) (r : VcaRuntime) : (s.setVca r).p = s.p := rfl
@[simp] theorem State.setVca_busy (s : State) (r : VcaRuntime) : (s.setVca r).busy = s.busy := rfl
@[simp] theorem State.setVca_bankSel (s : State) (r : VcaRuntime) : (s.setVca r).bankSel = s.bankSel := rfl
@[simp] theorem State.setVca_overlapFaults (s : State) (r : VcaRuntime) : (s.setVca r).overlapFaults = s.overlapFaults := rfl
@[simp] theorem State.setVca_params (s : State) (r : VcaRuntime) : (s.setVca r).params = s.params := rfl
@[simp] theorem State.setVca_inbox (s : State) (r : VcaRuntime) : (s.setVca r).inbox = s.inbox := rfl
@[simp] theorem State.setVca_trace (s : State) (r : VcaRuntime) : (s.setVca r).trace = s.trace := rfl

@[simp] theorem State.setVcf_cfgVca (s : State) (r : VcfRuntime) : (s.setVcf r).cfgVca = s.cfgVca := rfl
@[simp] theorem State.setVcf_cfgVcf (s : State) (r : VcfRuntime) : (s.setVcf r).cfgVcf = s.cfgVcf := rfl
@[simp] theorem State.setVcf_glob (s : State) (r : VcfRuntime) : (s.setVcf r).glob = s.glob := rfl
@[simp] theorem State.setVcf_aux (s : State) (r : VcfRuntime) : (s.setVcf r).aux = s.aux := rfl
@[simp] theorem State.setVcf_vca (s : State) (r : VcfRuntime) : (s.setVcf r).vca = s.vca := rfl
@[simp] theorem State.setVcf_vcf (s : State) (r : VcfRuntime) : (s.setVcf r).vcf = r := rfl
@[simp] theorem State.setVcf_midi (s : State) (r : VcfRuntime) : (s.setVcf r).midi = s.midi := rfl
@[simp] theorem State.setVcf_drumCount (s : State) (r : VcfRuntime) : (s.setVcf r).drumCount = s.drumCount := rfl
@[simp] theorem State.setVcf_trig (s : State) (r : VcfRuntime) : (s.setVcf r).trig = s.trig := rfl
@[simp] theorem State.setVcf_p (s : State) (r : VcfRuntime) : (s.setVcf r).p = s.p := rfl
@[simp] theorem State.setVcf_busy (s : State) (r : VcfRuntime) : (s.setVcf r).busy = s.busy := rfl
@[simp] theorem State.setVcf_bankSel (s : State) (r : VcfRuntime) : (s.setVcf r).bankSel = s.bankSel := rfl
@[simp] theorem State.setVcf_overlapFaults (s : State) (r : VcfRuntime) : (s.setVcf r).overlapFaults = s.overlapFaults := rfl
@[simp] theorem State.setVcf_params (s : State) (r : VcfRuntime) : (s.setVcf r).params = s.params := rfl
@[simp] theorem State.setVcf_inbox (s : State) (r : VcfRuntime) : (s.setVcf r).inbox = s.inbox := rfl
@[simp] theorem State.setVcf_trace (s : State) (r : VcfRuntime) : (s.setVcf r).trace = s.trace := rfl

@[simp] theorem State.setMidi_cfgVca (s : State) (m : MidiNoteState) : (s.setMidi m).cfgVca = s.cfgVca := rfl
@[simp] theorem State.setMidi_cfgVcf (s : State) (m : MidiNoteState) : (s.setMidi m).cfgVcf = s.cfgVcf := rfl
@[simp] theorem State.setMidi_glob (s : State) (m : MidiNoteState) : (s.setMidi m).glob = s.glob := rfl
@[simp] theorem State.setMidi_aux (s : State) (m : MidiNoteState) : (s.setMidi m).aux = s.aux := rfl
@[simp] theorem State.setMidi_vca (s : State) (m : MidiNoteState) : (s.setMidi m).vca = s.vca := rfl
@[simp] theorem State.setMidi_vcf (s : State) (m : MidiNoteState) : (s.setMidi m).vcf = s.vcf := rfl
@[simp] theorem State.setMidi_midi (s : State) (m : MidiNoteState) : (s.setMidi m).midi = m := rfl
@[simp] theorem State.setMidi_drumCount (s : State) (m : MidiNoteState) : (s.setMidi m).drumCount = s.drumCount := rfl
@[simp] theorem State.setMidi_trig (s : State) (m : MidiNoteState) : (s.setMidi m).trig = s.trig := rfl
@[simp] theorem State.setMidi_p (s : State) (m : MidiNoteState) : (s.setMidi m).p = s.p := rfl
@[simp] theorem State.setMidi_busy (s : State) (m : MidiNoteState) : (s.setMidi m).busy = s.busy := rfl
@[simp] theorem State.setMidi_bankSel (s : State) (m : MidiNoteState) : (s.setMidi m).bankSel = s.bankSel := rfl
@[simp] theorem State.setMidi_overlapFaults (s : State) (m : MidiNoteState) : (s.setMidi m).overlapFaults = s.overlapFaults := rfl
@[simp] theorem State.setMidi_params (s : State) (m : MidiNoteState) : (s.setMidi m).params = s.params := rfl
@[simp] theorem State.setMidi_inbox (s : State) (m : MidiNoteState) : (s.setMidi m).inbox = s.inbox := rfl
@[simp] theorem State.setMidi_trace (s : State) (m : MidiNoteState) : (s.setMidi m).trace = s.trace := rfl

@[simp] theorem State.setDrumCount_cfgVca (s : State) (v n : Nat) : (s.setDrumCount v n).cfgVca = s.cfgVca := rfl
@[simp] theorem State.setDrumCount_cfgVcf (s : State) (v n : Nat) : (s.setDrumCount v n).cfgVcf = s.cfgVcf := rfl
@[simp] theorem State.setDrumCount_glob (s : State) (v n : Nat) : (s.setDrumCount v n).glob = s.glob := rfl
@[simp] theorem State.setDrumCount_aux (s : State) (v n : Nat) : (s.setDrumCount v n).aux = s.aux := rfl
@[simp] theorem State.setDrumCount_vca (s : State) (v n : Nat) : (s.setDrumCount v n).vca = s.vca := rfl
@[simp] theorem State.setDrumCount_vcf (s : State) (v n : Nat) : (s.setDrumCount v n).vcf = s.vcf := rfl
@[simp] theorem State.setDrumCount_midi (s : State) (v n : Nat) : (s.setDrumCount v n).midi = s.midi := rfl
@[simp] theorem State.setDrumCount_drumCount (s : State) (v n : Nat) : (s.setDrumCount v n).drumCount = s.drumCount.set v n := rfl
@[simp] theorem State.setDrumCount_trig (s : State) (v n : Nat) : (s.setDrumCount v n).trig = s.trig := rfl
@[simp] theorem State.setDrumCount_p (s : State) (v n : Nat) : (s.setDrumCount v n).p = s.p := rfl
@[simp] theorem State.setDrumCount_busy (s : State) (v n : Nat) : (s.setDrumCount v n).busy = s.busy := rfl
@[simp] theorem State.setDrumCount_bankSel (s : State) (v n : Nat) : (s.setDrumCount v n).bankSel = s.bankSel := rfl
@[simp] theorem State.setDrumCount_overlapFaults (s : State) (v n : Nat) : (s.setDrumCount v n).overlapFaults = s.overlapFaults := rfl
@[simp] theorem State.setDrumCount_params (s : State) (v n : Nat) : (s.setDrumCount v n).params = s.params := rfl
@[simp] theorem State.setDrumCount_inbox (s : State) (v n : Nat) : (s.setDrumCount v n).inbox = s.inbox := rfl
@[simp] theorem State.setDrumCount_trace (s : State) (v n : Nat) : (s.setDrumCount v n).trace = s.trace := rfl

@[simp] theorem State.setTrig_cfgVca (s : State) (v : Nat) (l : TrigLevel) : (s.setTrig v l).cfgVca = s.cfgVca := rfl
@[simp] theorem State.setTrig_cfgVcf (s : State) (v : Nat) (l : TrigLevel) : (s.setTrig v l).cfgVcf = s.cfgVcf := rfl
@[simp] theorem State.setTrig_glob (s : State) (v : Nat) (l : TrigLevel) : (s.setTrig v l).glob = s.glob := rfl
@[simp] theorem State.setTrig_aux (s : State) (v : Nat) (l : TrigLevel) : (s.setTrig v l).aux = s.aux := rfl
@[simp] theorem State.setTrig_vca (s : State) (v : Nat) (l : TrigLevel) : (s.setTrig v l).vca = s.vca := rfl
@[simp] theorem State.setTrig_vcf (s : State) (v : Nat) (l : TrigLevel) : (s.setTrig v l).vcf = s.vcf := rfl
@[simp] theorem State.setTrig_midi (s : State) (v : Nat) (l : TrigLevel) : (s.setTrig v l).midi = s.midi := rfl
@[simp] theorem State.setTrig_drumCount (s : State) (v : Nat) (l : TrigLevel) : (s.setTrig v l).drumCount = s.drumCount := rfl
@[simp] theorem State.setTrig_trig (s : State) (v : Nat) (l : TrigLevel) : (s.setTrig v l).trig = s.trig.set v l := rfl
@[simp] theorem State.setTrig_p (s : State) (v : Nat) (l : TrigLevel) : (s.setTrig v l).p = s.p := rfl
@[simp] theorem State.setTrig_busy (s : State) (v : Nat) (l : TrigLevel) : (s.setTrig v l).busy = s.busy := rfl
@[simp] theorem State.setTrig_bankSel (s : State) (v : Nat) (l : TrigLevel) : (s.setTrig v l).bankSel = s.bankSel := rfl
@[simp] theorem State.setTrig_overlapFaults (s : State) (v : Nat) (l : TrigLevel) : (s.setTrig v l).overlapFaults = s.overlapFaults := rfl
@[simp] theorem State.setTrig_params (s : State) (v : Nat) (l : TrigLevel) : (s.setTrig v l).params = s.params := rfl
@[simp] theorem State.setTrig_inbox (s : State) (v : Nat) (l : TrigLevel) : (s.setTrig v l).inbox = s.inbox := rfl
@[simp] theorem State.setTrig_trace (s : State) (v : Nat) (l : TrigLevel) : (s.setTrig v l).trace = s.trace := rfl

@[simp] theorem State.setPhase_cfgVca (s : State) (q : Nat) : (s.setPhase q).cfgVca = s.cfgVca := rfl
@[simp] theorem State.setPhase_cfgVcf (s : State) (q : Nat) : (s.setPhase q).cfgVcf = s.cfgVcf := rfl
@[simp] theorem State.setPhase_glob (s : State) (q : Nat) : (s.setPhase q).glob = s.glob := rfl
@[simp] theorem State.setPhase_aux (s : State) (q : Nat) : (s.setPhase q).aux = s.aux := rfl
@[simp] theorem State.setPhase_vca (s : State) (q : Nat) : (s.setPhase q).vca = s.vca := rfl
@[simp] theorem State.setPhase_vcf (s : State) (q : Nat) : (s.setPhase q).vcf = s.vcf := rfl
@[simp] theorem State.setPhase_midi (s : State) (q : Nat) : (s.setPhase q).midi = s.midi := rfl
@[simp] theorem State.setPhase_drumCount (s : State) (q : Nat) : (s.setPhase q).drumCount = s.drumCount := rfl
@[simp] theorem State.setPhase_trig (s : State) (q : Nat) : (s.setPhase q).trig = s.trig := rfl
@[simp] theorem State.setPhase_p (s : State) (q : Nat) : (s.setPhase q).p = q := rfl
@[simp] theorem State.setPhase_busy (s : State) (q : Nat) : (s.setPhase q).busy = s.busy := rfl
@[simp] theorem State.setPhase_bankSel (s : State) (q : Nat) : (s.setPhase q).bankSel = s.bankSel := rfl
@[simp] theorem State.setPhase_overlapFaults (s : State) (q : Nat) : (s.setPhase q).overlapFaults = s.overlapFaults := rfl
@[simp] theorem State.setPhase_params (s : State) (q : Nat) : (s.setPhase q).params = s.params := rfl
@[simp] theorem State.setPhase_inbox (s : State) (q : Nat) : (s.setPhase q).inbox = s.inbox := rfl
@[simp] theorem State.setPhase_trace (s : State) (q : Nat) : (s.setPhase q).trace = s.trace := rfl

@[simp] theorem State.setGate_cfgVca (s : State) (b : Bool) (o : Option Nat) : (s.setGate b o).cfgVca = s.cfgVca := rfl
@[simp] theorem State.setGate_cfgVcf (s : State) (b : Bool) (o : Option Nat) : (s.setGate b o).cfgVcf = s.cfgVcf := rfl
@[simp] theorem State.setGate_glob (s : State) (b : Bool) (o : Option Nat) : (s.setGate b o).glob = s.glob := rfl
@[simp] theorem State.setGate_aux (s : State) (b : Bool) (o : Option Nat) : (s.setGate b o).aux = s.aux := rfl
@[simp] theorem State.setGate_vca (s : State) (b : Bool) (o : Option Nat) : (s.setGate b o).vca = s.vca := rfl
@[simp] theorem State.setGate_vcf (s : State) (b : Bool) (o : Option Nat) : (s.setGate b o).vcf = s.vcf := rfl
@[simp] theorem State.setGate_midi (s : State) (b : Bool) (o : Option Nat) : (s.setGate b o).midi = s.midi := rfl
@[simp] theorem State.setGate_drumCount (s : State) (b : Bool) (o : Option Nat) : (s.setGate b o).drumCount = s.drumCount := rfl
@[simp] theorem State.setGate_trig (s : State) (b : Bool) (o : Option Nat) : (s.setGate b o).trig = s.trig := rfl
@[simp] theorem State.setGate_p (s : State) (b : Bool) (o : Option Nat) : (s.setGate b o).p = s.p := rfl
@[simp] theorem State.setGate_busy (s : State) (b : Bool) (o : Option Nat) : (s.setGate b o).busy = b := rfl
@[simp] theorem State.setGate_bankSel (s : State) (b : Bool) (o : Option Nat) : (s.setGate b o).bankSel = o := rfl
@[simp] theorem State.setGate_overlapFaults (s : State) (b : Bool) (o : Option Nat) : (s.setGate b o).overlapFaults = s.overlapFaults := rfl
@[simp] theorem State.setGate_params (s : State) (b : Bool) (o : Option Nat) : (s.setGate b o).params = s.params := rfl
@[simp] theorem State.setGate_inbox (s : State) (b : Bool) (o : Option Nat) : (s.setGate b o).inbox = s.inbox := rfl
@[simp] theorem State.setGate_trace (s : State) (b : Bool) (o : Option Nat) : (s.setGate b o).trace = s.trace := rfl

@[simp] theorem State.setFaults_cfgVca (s : State) (n : Nat) : (s.setFaults n).cfgVca = s.cfgVca := rfl
@[simp] theorem State.setFaults_cfgVcf (s : State) (n : Nat) : (s.setFaults n).cfgVcf = s.cfgVcf := rfl
@[simp] theorem State.setFaults_glob (s : State) (n : Nat) : (s.setFaults n).glob = s.glob := rfl
@[simp] theorem State.setFaults_aux (s : State) (n : Nat) : (s.setFaults n).aux = s.aux := rfl
@[simp] theorem State.setFaults_vca (s : State) (n : Nat) : (s.setFaults n).vca = s.vca := rfl
@[simp] theorem State.setFaults_vcf (s : State) (n : Nat) : (s.setFaults n).vcf = s.vcf := rfl
@[simp] theorem State.setFaults_midi (s : State) (n : Nat) : (s.setFaults n).midi = s.midi := rfl
@[simp] theorem State.setFaults_drumCount (s : State) (n : Nat) : (s.setFaults n).drumCount = s.drumCount := rfl
@[simp] theorem State.setFaults_trig (s : State) (n : Nat) : (s.setFaults n).trig = s.trig := rfl
@[simp] theorem State.setFaults_p (s : State) (n : Nat) : (s.setFaults n).p = s.p := rfl
@[simp] theorem State.setFaults_busy (s : State) (n : Nat) : (s.setFaults n).busy = s.busy := rfl
@[simp] theorem State.setFaults_bankSel (s : State) (n : Nat) : (s.setFaults n).bankSel = s.bankSel := rfl
@[simp] theorem State.setFaults_overlapFaults (s : State) (n : Nat) : (s.setFaults n).overlapFaults = n := rfl
@[simp] theorem State.setFaults_params (s : State) (n : Nat) : (s.setFaults n).params = s.params := rfl
@[simp] theorem State.setFaults_inbox (s : State) (n : Nat) : (s.setFaults n).inbox = s.inbox := rfl
@[simp] theorem State.setFaults_trace (s : State) (n : Nat) : (s.setFaults n).trace = s.trace := rfl

@[simp] theorem State.emitOut_cfgVca (s : State) (e : OutEvent) : (s.emitOut e).cfgVca = s.cfgVca := rfl
@[simp] theorem State.emitOut_cfgVcf (s : State) (e : OutEvent) : (s.emitOut e).cfgVcf = s.cfgVcf := rfl
@[simp] theorem State.emitOut_glob (s : State) (e : OutEvent) : (s.emitOut e).glob = s.glob := rfl
@[simp] theorem State.emitOut_aux (s : State) (e : OutEvent) : (s.emitOut e).aux = s.aux := rfl
@[simp] theorem State.emitOut_vca (s : State) (e : OutEvent) : (s.emitOut e).vca = s.vca := rfl
@[simp] theorem State.emitOut_vcf (s : State) (e : OutEvent) : (s.emitOut e).vcf = s.vcf := rfl
@[simp] theorem State.emitOut_midi (s : State) (e : OutEvent) : (s.emitOut e).midi = s.midi := rfl
@[simp] theorem State.emitOut_drumCount (s : State) (e : OutEvent) : (s.emitOut e).drumCount = s.drumCount := rfl
@[simp] theorem State.emitOut_trig (s : State) (e : OutEvent) : (s.emitOut e).trig = s.trig := rfl
@[simp] theorem State.emitOut_p (s : State) (e : OutEvent) : (s.emitOut e).p = s.p := rfl
@[simp] theorem State.emitOut_busy (s : State) (e : OutEvent) : (s.emitOut e).busy = s.busy := rfl
@[simp] theorem State.emitOut_bankSel (s : State) (e : OutEvent) : (s.emitOut e).bankSel = s.bankSel := rfl
@[simp] theorem State.emitOut_overlapFaults (s : State) (e : OutEvent) : (s.emitOut e).overlapFaults = s.overlapFaults := rfl
@[simp] theorem State.emitOut_params (s : State) (e : OutEvent) : (s.emitOut e).params = s.params := rfl
@[simp] theorem State.emitOut_inbox (s : State) (e : OutEvent) : (s.emitOut e).inbox = s.inbox := rfl
@[simp] theorem State.emitOut_trace (s : State) (e : OutEvent) : (s.emitOut e).trace = s.trace ++ [e] := rfl

@[simp] theorem State.setInbox_cfgVca (s : State) (es : List EventWord) : (s.setInbox es).cfgVca = s.cfgVca := rfl
@[simp] theorem State.setInbox_cfgVcf (s : State) (es : List EventWord) : (s.setInbox es).cfgVcf = s.cfgVcf := rfl
@[simp] theorem State.setInbox_glob (s : State) (es : List EventWord) : (s.setInbox es).glob = s.glob := rfl
@[simp] theorem State.setInbox_aux (s : State) (es : List EventWord) : (s.setInbox es).aux = s.aux := rfl
@[simp] theorem State.setInbox_vca (s : State) (es : List EventWord) : (s.setInbox es).vca = s.vca := rfl
@[simp] theorem State.setInbox_vcf (s : State) (es : List EventWord) : (s.setInbox es).vcf = s.vcf := rfl
@[simp] theorem State.setInbox_midi (s : State) (es : List EventWord) : (s.setInbox es).midi = s.midi := rfl
@[simp] theorem State.setInbox_drumCount (s : State) (es : List EventWord) : (s.setInbox es).drumCount = s.drumCount := rfl
@[simp] theorem State.setInbox_trig (s : State) (es : List EventWord) : (s.setInbox es).trig = s.trig := rfl
@[simp] theorem State.setInbox_p (s : State) (es : List EventWord) : (s.setInbox es).p = s.p := rfl
@[simp] theorem State.setInbox_busy (s : State) (es : List EventWord) : (s.setInbox es).busy = s.busy := rfl
@[simp] theorem State.setInbox_bankSel (s : State) (es : List EventWord) : (s.setInbox es).bankSel = s.bankSel := rfl
@[simp] theorem State.setInbox_overlapFaults (s : State) (es : List EventWord) : (s.setInbox es).overlapFaults = s.overlapFaults := rfl
@[simp] theorem State.setInbox_params (s : State) (es : List EventWord) : (s.setInbox es).params = s.params := rfl
@[simp] theorem State.setInbox_inbox (s : State) (es : List EventWord) : (s.setInbox es).inbox = es := rfl
@[simp] theorem State.setInbox_trace (s : State) (es : List EventWord) : (s.setInbox es).trace = s.trace := rfl

@[simp] theorem State.setBlock_cfgVca (s : State) (b : Block) : (s.setBlock b).cfgVca = b.cfgVca := rfl
@[simp] theorem State.setBlock_cfgVcf (s : State) (b : Block) : (s.setBlock b).cfgVcf = b.cfgVcf := rfl
@[simp] theorem State.setBlock_glob (s : State) (b : Block) : (s.setBlock b).glob = b.glob := rfl
@[simp] theorem State.setBlock_aux (s : State) (b : Block) : (s.setBlock b).aux = b.aux := rfl
@[simp] theorem State.setBlock_vca (s : State) (b : Block) : (s.setBlock b).vca = b.vca := rfl
@[simp] theorem State.setBlock_vcf (s : State) (b : Block) : (s.setBlock b).vcf = b.vcf := rfl
@[simp] theorem State.setBlock_midi (s : State) (b : Block) : (s.setBlock b).midi = b.midi := rfl
@[simp] theorem State.setBlock_drumCount (s : State) (b : Block) : (s.setBlock b).drumCount = b.drumCount := rfl
@[simp] theorem State.setBlock_trig (s : State) (b : Block) : (s.setBlock b).trig = b.trig := rfl
@[simp] theorem State.setBlock_p (s : State) (b : Block) : (s.setBlock b).p = b.p := rfl
@[simp] theorem State.setBlock_busy (s : State) (b : Block) : (s.setBlock b).busy = b.busy := rfl
@[simp] theorem State.setBlock_bankSel (s : State) (b : Block) : (s.setBlock b).bankSel = b.bankSel := rfl
@[simp] theorem State.setBlock_overlapFaults (s : State) (b : Block) : (s.setBlock b).overlapFaults = b.overlapFaults := rfl
@[simp] theorem State.setBlock_params (s : State) (b : Block) : (s.setBlock b).params = s.params := rfl
@[simp] theorem State.setBlock_inbox (s : State) (b : Block) : (s.setBlock b).inbox = s.inbox := rfl
@[simp] theorem State.setBlock_trace (s : State) (b : Block) : (s.setBlock b).trace = s.trace := rfl

end Sys2Proof.Machine
end

