-- ==== Sys2Proof/Laws/Ops.lean ====
section
/-! SUPPORT. What each shared operation can do, said once: the frame of every operation as simp lemmas, and one lemma
for what it writes. -/

namespace Sys2Proof.Machine

/-! ### The transport gate -/

theorem write_free {s : State} (h : s.busy = false) (bank : Nat) (word : WireWord) :
    write bank word s = (s.setGate true (some bank)).emitOut (.transmit bank word) := by
  simp [write, h, gateAssert]

theorem write_busy {s : State} (h : s.busy = true) (bank : Nat) (word : WireWord) :
    write bank word s = s.setFaults (min (s.overlapFaults + 1) (2 ^ s.params.faultCtrWidth - 1)) := by
  simp [write, h, raiseFault, countOverlap, faultCtrMax]

@[simp] theorem write_cfgVca (bank : Nat) (word : WireWord) (s : State) : (write bank word s).cfgVca = s.cfgVca := by
  cases h : s.busy <;> simp [write_free, write_busy, h]
@[simp] theorem write_cfgVcf (bank : Nat) (word : WireWord) (s : State) : (write bank word s).cfgVcf = s.cfgVcf := by
  cases h : s.busy <;> simp [write_free, write_busy, h]
@[simp] theorem write_glob (bank : Nat) (word : WireWord) (s : State) : (write bank word s).glob = s.glob := by
  cases h : s.busy <;> simp [write_free, write_busy, h]
@[simp] theorem write_aux (bank : Nat) (word : WireWord) (s : State) : (write bank word s).aux = s.aux := by
  cases h : s.busy <;> simp [write_free, write_busy, h]
@[simp] theorem write_vca (bank : Nat) (word : WireWord) (s : State) : (write bank word s).vca = s.vca := by
  cases h : s.busy <;> simp [write_free, write_busy, h]
@[simp] theorem write_vcf (bank : Nat) (word : WireWord) (s : State) : (write bank word s).vcf = s.vcf := by
  cases h : s.busy <;> simp [write_free, write_busy, h]
@[simp] theorem write_midi (bank : Nat) (word : WireWord) (s : State) : (write bank word s).midi = s.midi := by
  cases h : s.busy <;> simp [write_free, write_busy, h]
@[simp] theorem write_drumCount (bank : Nat) (word : WireWord) (s : State) : (write bank word s).drumCount = s.drumCount := by
  cases h : s.busy <;> simp [write_free, write_busy, h]
@[simp] theorem write_trig (bank : Nat) (word : WireWord) (s : State) : (write bank word s).trig = s.trig := by
  cases h : s.busy <;> simp [write_free, write_busy, h]
@[simp] theorem write_p (bank : Nat) (word : WireWord) (s : State) : (write bank word s).p = s.p := by
  cases h : s.busy <;> simp [write_free, write_busy, h]
@[simp] theorem write_params (bank : Nat) (word : WireWord) (s : State) : (write bank word s).params = s.params := by
  cases h : s.busy <;> simp [write_free, write_busy, h]
@[simp] theorem write_inbox (bank : Nat) (word : WireWord) (s : State) : (write bank word s).inbox = s.inbox := by
  cases h : s.busy <;> simp [write_free, write_busy, h]

/-- After a write the gate is busy, whether the write was transmitted or refused (rule R76). -/
@[simp] theorem write_busy_after (bank : Nat) (word : WireWord) (s : State) : (write bank word s).busy = true := by
  cases h : s.busy <;> simp [write_free, write_busy, h]

@[simp] theorem emit_cfgVca (out : LogicalOutput) (value : ℤ) (s : State) : (emit out value s).cfgVca = s.cfgVca := by simp [emit]
@[simp] theorem emit_cfgVcf (out : LogicalOutput) (value : ℤ) (s : State) : (emit out value s).cfgVcf = s.cfgVcf := by simp [emit]
@[simp] theorem emit_glob (out : LogicalOutput) (value : ℤ) (s : State) : (emit out value s).glob = s.glob := by simp [emit]
@[simp] theorem emit_aux (out : LogicalOutput) (value : ℤ) (s : State) : (emit out value s).aux = s.aux := by simp [emit]
@[simp] theorem emit_vca (out : LogicalOutput) (value : ℤ) (s : State) : (emit out value s).vca = s.vca := by simp [emit]
@[simp] theorem emit_vcf (out : LogicalOutput) (value : ℤ) (s : State) : (emit out value s).vcf = s.vcf := by simp [emit]
@[simp] theorem emit_midi (out : LogicalOutput) (value : ℤ) (s : State) : (emit out value s).midi = s.midi := by simp [emit]
@[simp] theorem emit_drumCount (out : LogicalOutput) (value : ℤ) (s : State) : (emit out value s).drumCount = s.drumCount := by simp [emit]
@[simp] theorem emit_trig (out : LogicalOutput) (value : ℤ) (s : State) : (emit out value s).trig = s.trig := by simp [emit]
@[simp] theorem emit_p (out : LogicalOutput) (value : ℤ) (s : State) : (emit out value s).p = s.p := by simp [emit]
@[simp] theorem emit_params (out : LogicalOutput) (value : ℤ) (s : State) : (emit out value s).params = s.params := by simp [emit]
@[simp] theorem emit_inbox (out : LogicalOutput) (value : ℤ) (s : State) : (emit out value s).inbox = s.inbox := by simp [emit]

@[simp] theorem emit_busy_after (out : LogicalOutput) (value : ℤ) (s : State) : (emit out value s).busy = true := by
  simp [emit]

theorem emit_free {s : State} (h : s.busy = false) (out : LogicalOutput) (value : ℤ) :
    emit out value s =
      (s.setGate true (some (resolve s.params out).bank)).emitOut
        (.transmit (resolve s.params out).bank
          (wireWord s.params value (resolve s.params out).sub (resolve s.params out).gain)) := by
  simp [emit, write_free h]

theorem emit_busy {s : State} (h : s.busy = true) (out : LogicalOutput) (value : ℤ) :
    emit out value s = s.setFaults (min (s.overlapFaults + 1) (2 ^ s.params.faultCtrWidth - 1)) := by
  simp [emit, write_busy h]

@[simp] theorem transferDone_cfgVca (b : Byte) (s : State) : (transferDone b s).cfgVca = s.cfgVca := by
  cases h : s.busy <;> simp [transferDone, gateRelease, h]
@[simp] theorem transferDone_cfgVcf (b : Byte) (s : State) : (transferDone b s).cfgVcf = s.cfgVcf := by
  cases h : s.busy <;> simp [transferDone, gateRelease, h]
@[simp] theorem transferDone_glob (b : Byte) (s : State) : (transferDone b s).glob = s.glob := by
  cases h : s.busy <;> simp [transferDone, gateRelease, h]
@[simp] theorem transferDone_aux (b : Byte) (s : State) : (transferDone b s).aux = s.aux := by
  cases h : s.busy <;> simp [transferDone, gateRelease, h]
@[simp] theorem transferDone_vca (b : Byte) (s : State) : (transferDone b s).vca = s.vca := by
  cases h : s.busy <;> simp [transferDone, gateRelease, h]
@[simp] theorem transferDone_vcf (b : Byte) (s : State) : (transferDone b s).vcf = s.vcf := by
  cases h : s.busy <;> simp [transferDone, gateRelease, h]
@[simp] theorem transferDone_midi (b : Byte) (s : State) : (transferDone b s).midi = s.midi := by
  cases h : s.busy <;> simp [transferDone, gateRelease, h]
@[simp] theorem transferDone_drumCount (b : Byte) (s : State) : (transferDone b s).drumCount = s.drumCount := by
  cases h : s.busy <;> simp [transferDone, gateRelease, h]
@[simp] theorem transferDone_trig (b : Byte) (s : State) : (transferDone b s).trig = s.trig := by
  cases h : s.busy <;> simp [transferDone, gateRelease, h]
@[simp] theorem transferDone_p (b : Byte) (s : State) : (transferDone b s).p = s.p := by
  cases h : s.busy <;> simp [transferDone, gateRelease, h]
@[simp] theorem transferDone_overlapFaults (b : Byte) (s : State) : (transferDone b s).overlapFaults = s.overlapFaults := by
  cases h : s.busy <;> simp [transferDone, gateRelease, h]
@[simp] theorem transferDone_params (b : Byte) (s : State) : (transferDone b s).params = s.params := by
  cases h : s.busy <;> simp [transferDone, gateRelease, h]
@[simp] theorem transferDone_inbox (b : Byte) (s : State) : (transferDone b s).inbox = s.inbox := by
  cases h : s.busy <;> simp [transferDone, gateRelease, h]
@[simp] theorem transferDone_trace (b : Byte) (s : State) : (transferDone b s).trace = s.trace := by
  cases h : s.busy <;> simp [transferDone, gateRelease, h]

@[simp] theorem transferDone_busy (b : Byte) (s : State) : (transferDone b s).busy = false := by
  cases h : s.busy <;> simp [transferDone, gateRelease, h]

theorem transferDone_bankSel (b : Byte) (s : State) :
    (transferDone b s).bankSel = if s.busy = true then none else s.bankSel := by
  cases h : s.busy <;> simp [transferDone, gateRelease, h]

/-! ### The drum triggers -/

@[simp] theorem driveTrigger_cfgVca (v : Nat) (l : TrigLevel) (s : State) : (driveTrigger v l s).cfgVca = s.cfgVca := by simp [driveTrigger]
@[simp] theorem driveTrigger_cfgVcf (v : Nat) (l : TrigLevel) (s : State) : (driveTrigger v l s).cfgVcf = s.cfgVcf := by simp [driveTrigger]
@[simp] theorem driveTrigger_glob (v : Nat) (l : TrigLevel) (s : State) : (driveTrigger v l s).glob = s.glob := by simp [driveTrigger]
@[simp] theorem driveTrigger_aux (v : Nat) (l : TrigLevel) (s : State) : (driveTrigger v l s).aux = s.aux := by simp [driveTrigger]
@[simp] theorem driveTrigger_vca (v : Nat) (l : TrigLevel) (s : State) : (driveTrigger v l s).vca = s.vca := by simp [driveTrigger]
@[simp] theorem driveTrigger_vcf (v : Nat) (l : TrigLevel) (s : State) : (driveTrigger v l s).vcf = s.vcf := by simp [driveTrigger]
@[simp] theorem driveTrigger_midi (v : Nat) (l : TrigLevel) (s : State) : (driveTrigger v l s).midi = s.midi := by simp [driveTrigger]
@[simp] theorem driveTrigger_drumCount (v : Nat) (l : TrigLevel) (s : State) : (driveTrigger v l s).drumCount = s.drumCount := by simp [driveTrigger]
@[simp] theorem driveTrigger_p (v : Nat) (l : TrigLevel) (s : State) : (driveTrigger v l s).p = s.p := by simp [driveTrigger]
@[simp] theorem driveTrigger_busy (v : Nat) (l : TrigLevel) (s : State) : (driveTrigger v l s).busy = s.busy := by simp [driveTrigger]
@[simp] theorem driveTrigger_bankSel (v : Nat) (l : TrigLevel) (s : State) : (driveTrigger v l s).bankSel = s.bankSel := by simp [driveTrigger]
@[simp] theorem driveTrigger_overlapFaults (v : Nat) (l : TrigLevel) (s : State) : (driveTrigger v l s).overlapFaults = s.overlapFaults := by simp [driveTrigger]
@[simp] theorem driveTrigger_params (v : Nat) (l : TrigLevel) (s : State) : (driveTrigger v l s).params = s.params := by simp [driveTrigger]
@[simp] theorem driveTrigger_inbox (v : Nat) (l : TrigLevel) (s : State) : (driveTrigger v l s).inbox = s.inbox := by simp [driveTrigger]
@[simp] theorem driveTrigger_trig (v : Nat) (l : TrigLevel) (s : State) :
    (driveTrigger v l s).trig = s.trig.set v l := by simp [driveTrigger]
@[simp] theorem driveTrigger_trace (v : Nat) (l : TrigLevel) (s : State) :
    (driveTrigger v l s).trace = s.trace ++ [.setTrigger v l] := by simp [driveTrigger]

@[simp] theorem armDrum_cfgVca (v : Nat) (s : State) : (armDrum v s).cfgVca = s.cfgVca := by simp [armDrum]
@[simp] theorem armDrum_cfgVcf (v : Nat) (s : State) : (armDrum v s).cfgVcf = s.cfgVcf := by simp [armDrum]
@[simp] theorem armDrum_glob (v : Nat) (s : State) : (armDrum v s).glob = s.glob := by simp [armDrum]
@[simp] theorem armDrum_aux (v : Nat) (s : State) : (armDrum v s).aux = s.aux := by simp [armDrum]
@[simp] theorem armDrum_vca (v : Nat) (s : State) : (armDrum v s).vca = s.vca := by simp [armDrum]
@[simp] theorem armDrum_vcf (v : Nat) (s : State) : (armDrum v s).vcf = s.vcf := by simp [armDrum]
@[simp] theorem armDrum_midi (v : Nat) (s : State) : (armDrum v s).midi = s.midi := by simp [armDrum]
@[simp] theorem armDrum_p (v : Nat) (s : State) : (armDrum v s).p = s.p := by simp [armDrum]
@[simp] theorem armDrum_busy (v : Nat) (s : State) : (armDrum v s).busy = s.busy := by simp [armDrum]
@[simp] theorem armDrum_bankSel (v : Nat) (s : State) : (armDrum v s).bankSel = s.bankSel := by simp [armDrum]
@[simp] theorem armDrum_overlapFaults (v : Nat) (s : State) : (armDrum v s).overlapFaults = s.overlapFaults := by simp [armDrum]
@[simp] theorem armDrum_params (v : Nat) (s : State) : (armDrum v s).params = s.params := by simp [armDrum]
@[simp] theorem armDrum_inbox (v : Nat) (s : State) : (armDrum v s).inbox = s.inbox := by simp [armDrum]
@[simp] theorem armDrum_drumCount (v : Nat) (s : State) :
    (armDrum v s).drumCount = s.drumCount.set v s.params.drumPulse := by simp [armDrum]
@[simp] theorem armDrum_trig (v : Nat) (s : State) : (armDrum v s).trig = s.trig.set v .activeLvl := by simp [armDrum]
@[simp] theorem armDrum_trace (v : Nat) (s : State) :
    (armDrum v s).trace = s.trace ++ [.setTrigger v .activeLvl] := by simp [armDrum]

@[simp] theorem drumStep_cfgVca (s : State) (v : Nat) : (drumStep s v).cfgVca = s.cfgVca := by
  simp only [drumStep]; split_ifs <;> simp
@[simp] theorem drumStep_cfgVcf (s : State) (v : Nat) : (drumStep s v).cfgVcf = s.cfgVcf := by
  simp only [drumStep]; split_ifs <;> simp
@[simp] theorem drumStep_glob (s : State) (v : Nat) : (drumStep s v).glob = s.glob := by
  simp only [drumStep]; split_ifs <;> simp
@[simp] theorem drumStep_aux (s : State) (v : Nat) : (drumStep s v).aux = s.aux := by
  simp only [drumStep]; split_ifs <;> simp
@[simp] theorem drumStep_vca (s : State) (v : Nat) : (drumStep s v).vca = s.vca := by
  simp only [drumStep]; split_ifs <;> simp
@[simp] theorem drumStep_vcf (s : State) (v : Nat) : (drumStep s v).vcf = s.vcf := by
  simp only [drumStep]; split_ifs <;> simp
@[simp] theorem drumStep_midi (s : State) (v : Nat) : (drumStep s v).midi = s.midi := by
  simp only [drumStep]; split_ifs <;> simp
@[simp] theorem drumStep_p (s : State) (v : Nat) : (drumStep s v).p = s.p := by
  simp only [drumStep]; split_ifs <;> simp
@[simp] theorem drumStep_busy (s : State) (v : Nat) : (drumStep s v).busy = s.busy := by
  simp only [drumStep]; split_ifs <;> simp
@[simp] theorem drumStep_bankSel (s : State) (v : Nat) : (drumStep s v).bankSel = s.bankSel := by
  simp only [drumStep]; split_ifs <;> simp
@[simp] theorem drumStep_overlapFaults (s : State) (v : Nat) : (drumStep s v).overlapFaults = s.overlapFaults := by
  simp only [drumStep]; split_ifs <;> simp
@[simp] theorem drumStep_params (s : State) (v : Nat) : (drumStep s v).params = s.params := by
  simp only [drumStep]; split_ifs <;> simp
@[simp] theorem drumStep_inbox (s : State) (v : Nat) : (drumStep s v).inbox = s.inbox := by
  simp only [drumStep]; split_ifs <;> simp

@[simp] theorem setDrumCount_countAt (s : State) (v w n : Nat) :
    drumCountAt (s.setDrumCount v n) w = if w = v ∧ v < s.drumCount.length then n else drumCountAt s w := by
  simp only [drumCountAt, State.setDrumCount_drumCount, List.getD, List.getElem?_set]
  by_cases h : v = w
  · subst h
    by_cases hv : v < s.drumCount.length <;> simp [hv]
  · simp [h, Ne.symm h]

theorem drumCountAt_congr {s t : State} (h : t.drumCount = s.drumCount) (v : Nat) :
    drumCountAt t v = drumCountAt s v := by simp only [drumCountAt, h]

theorem drumCountAt_of_length_le {s : State} {v : Nat} (h : s.drumCount.length ≤ v) : drumCountAt s v = 0 := by
  simp [drumCountAt, List.getD, h]

theorem drumStep_trig (s : State) (v : Nat) :
    (drumStep s v).trig = if drumCountAt s v = 1 then s.trig.set v .idleLvl else s.trig := by
  simp only [drumStep]
  split_ifs <;> first | rfl | (simp; done) | omega

theorem drumStep_trace (s : State) (v : Nat) :
    (drumStep s v).trace = s.trace ++ if drumCountAt s v = 1 then [OutEvent.setTrigger v .idleLvl] else [] := by
  simp only [drumStep]
  split_ifs <;> first | rfl | (simp; done) | omega

@[simp] theorem drumStep_drumCount_length (s : State) (v : Nat) :
    (drumStep s v).drumCount.length = s.drumCount.length := by
  simp only [drumStep]
  split_ifs <;> simp

/-- One voice's part of the countdown leaves the other voices' counters alone. -/
theorem drumStep_countAt (s : State) (v w : Nat) :
    drumCountAt (drumStep s v) w = if w = v then drumCountAt s v - 1 else drumCountAt s w := by
  have hl : drumCountAt s v ≠ 0 → v < s.drumCount.length := fun h => by
    by_contra hv
    exact h (drumCountAt_of_length_le (by omega))
  simp only [drumStep]
  by_cases h : drumCountAt s v = 0
  · by_cases hw : w = v
    · subst hw; simp [h]
    · simp [h, hw]
  · by_cases h1 : drumCountAt s v - 1 = 0
    · simp only [h, h1, if_true, if_false]
      rw [drumCountAt_congr (driveTrigger_drumCount v .idleLvl _)]
      by_cases hw : w = v <;> simp [hw, hl h]
    · by_cases hw : w = v <;> simp [h, h1, hw, hl h]

theorem foldl_drumStep_cfgVca (l : List Nat) (s : State) : (l.foldl drumStep s).cfgVca = s.cfgVca := by
  induction l generalizing s with
  | nil => rfl
  | cons v l ih => simp [ih]
theorem foldl_drumStep_cfgVcf (l : List Nat) (s : State) : (l.foldl drumStep s).cfgVcf = s.cfgVcf := by
  induction l generalizing s with
  | nil => rfl
  | cons v l ih => simp [ih]
theorem foldl_drumStep_glob (l : List Nat) (s : State) : (l.foldl drumStep s).glob = s.glob := by
  induction l generalizing s with
  | nil => rfl
  | cons v l ih => simp [ih]
theorem foldl_drumStep_aux (l : List Nat) (s : State) : (l.foldl drumStep s).aux = s.aux := by
  induction l generalizing s with
  | nil => rfl
  | cons v l ih => simp [ih]
theorem foldl_drumStep_vca (l : List Nat) (s : State) : (l.foldl drumStep s).vca = s.vca := by
  induction l generalizing s with
  | nil => rfl
  | cons v l ih => simp [ih]
theorem foldl_drumStep_vcf (l : List Nat) (s : State) : (l.foldl drumStep s).vcf = s.vcf := by
  induction l generalizing s with
  | nil => rfl
  | cons v l ih => simp [ih]
theorem foldl_drumStep_midi (l : List Nat) (s : State) : (l.foldl drumStep s).midi = s.midi := by
  induction l generalizing s with
  | nil => rfl
  | cons v l ih => simp [ih]
theorem foldl_drumStep_p (l : List Nat) (s : State) : (l.foldl drumStep s).p = s.p := by
  induction l generalizing s with
  | nil => rfl
  | cons v l ih => simp [ih]
theorem foldl_drumStep_busy (l : List Nat) (s : State) : (l.foldl drumStep s).busy = s.busy := by
  induction l generalizing s with
  | nil => rfl
  | cons v l ih => simp [ih]
theorem foldl_drumStep_bankSel (l : List Nat) (s : State) : (l.foldl drumStep s).bankSel = s.bankSel := by
  induction l generalizing s with
  | nil => rfl
  | cons v l ih => simp [ih]
theorem foldl_drumStep_overlapFaults (l : List Nat) (s : State) : (l.foldl drumStep s).overlapFaults = s.overlapFaults := by
  induction l generalizing s with
  | nil => rfl
  | cons v l ih => simp [ih]
theorem foldl_drumStep_params (l : List Nat) (s : State) : (l.foldl drumStep s).params = s.params := by
  induction l generalizing s with
  | nil => rfl
  | cons v l ih => simp [ih]
theorem foldl_drumStep_inbox (l : List Nat) (s : State) : (l.foldl drumStep s).inbox = s.inbox := by
  induction l generalizing s with
  | nil => rfl
  | cons v l ih => simp [ih]

theorem foldl_drumStep_countAt (l : List Nat) (hl : l.Nodup) (s : State) (w : Nat) :
    drumCountAt (l.foldl drumStep s) w = if w ∈ l then drumCountAt s w - 1 else drumCountAt s w := by
  induction l generalizing s with
  | nil => simp
  | cons v l ih =>
    obtain ⟨hv, hl'⟩ := List.nodup_cons.mp hl
    rw [List.foldl_cons, ih hl', drumStep_countAt]
    by_cases h : w = v
    · subst h; simp [hv]
    · simp [h]

theorem foldl_drumStep_trace (l : List Nat) (hl : l.Nodup) (s : State) :
    (l.foldl drumStep s).trace =
      s.trace ++ (l.filter fun v => drumCountAt s v = 1).map fun v => OutEvent.setTrigger v .idleLvl := by
  induction l generalizing s with
  | nil => simp
  | cons v l ih =>
    obtain ⟨hv, hl'⟩ := List.nodup_cons.mp hl
    have hf : (l.filter fun w => drumCountAt (drumStep s v) w = 1) = l.filter fun w => drumCountAt s w = 1 := by
      refine List.filter_congr fun w hw => ?_
      have : w ≠ v := fun e => hv (e ▸ hw)
      simp only [drumStep_countAt, this, if_false]
    rw [List.foldl_cons, ih hl', drumStep_trace, hf, List.filter_cons]
    by_cases h : drumCountAt s v = 1 <;> simp [h]

theorem foldl_drumStep_trig (l : List Nat) (hl : l.Nodup) (s : State) (w : Nat) :
    (l.foldl drumStep s).trig[w]? =
      if w ∈ l ∧ drumCountAt s w = 1 then s.trig[w]?.map fun _ => .idleLvl else s.trig[w]? := by
  induction l generalizing s with
  | nil => simp
  | cons v l ih =>
    obtain ⟨hv, hl'⟩ := List.nodup_cons.mp hl
    rw [List.foldl_cons, ih hl', drumStep_trig, drumStep_countAt]
    by_cases h : w = v
    · subst h
      by_cases h1 : drumCountAt s w = 1
      · by_cases hw : w < s.trig.length <;> simp [hv, h1, hw]
      · simp [hv, h1]
    · by_cases h1 : drumCountAt s v = 1
      · simp [h, h1, Ne.symm h]
      · simp [h, h1]

theorem foldl_drumStep_lengths (l : List Nat) (s : State) :
    (l.foldl drumStep s).drumCount.length = s.drumCount.length ∧ (l.foldl drumStep s).trig.length = s.trig.length := by
  induction l generalizing s with
  | nil => simp
  | cons v l ih =>
    rw [List.foldl_cons, (ih _).1, (ih _).2, drumStep_trig]
    constructor
    · simp
    · split_ifs <;> simp

@[simp] theorem drumCountdown_cfgVca (s : State) : (drumCountdown s).cfgVca = s.cfgVca := foldl_drumStep_cfgVca _ _
@[simp] theorem drumCountdown_cfgVcf (s : State) : (drumCountdown s).cfgVcf = s.cfgVcf := foldl_drumStep_cfgVcf _ _
@[simp] theorem drumCountdown_glob (s : State) : (drumCountdown s).glob = s.glob := foldl_drumStep_glob _ _
@[simp] theorem drumCountdown_aux (s : State) : (drumCountdown s).aux = s.aux := foldl_drumStep_aux _ _
@[simp] theorem drumCountdown_vca (s : State) : (drumCountdown s).vca = s.vca := foldl_drumStep_vca _ _
@[simp] theorem drumCountdown_vcf (s : State) : (drumCountdown s).vcf = s.vcf := foldl_drumStep_vcf _ _
@[simp] theorem drumCountdown_midi (s : State) : (drumCountdown s).midi = s.midi := foldl_drumStep_midi _ _
@[simp] theorem drumCountdown_p (s : State) : (drumCountdown s).p = s.p := foldl_drumStep_p _ _
@[simp] theorem drumCountdown_busy (s : State) : (drumCountdown s).busy = s.busy := foldl_drumStep_busy _ _
@[simp] theorem drumCountdown_bankSel (s : State) : (drumCountdown s).bankSel = s.bankSel := foldl_drumStep_bankSel _ _
@[simp] theorem drumCountdown_overlapFaults (s : State) : (drumCountdown s).overlapFaults = s.overlapFaults := foldl_drumStep_overlapFaults _ _
@[simp] theorem drumCountdown_params (s : State) : (drumCountdown s).params = s.params := foldl_drumStep_params _ _
@[simp] theorem drumCountdown_inbox (s : State) : (drumCountdown s).inbox = s.inbox := foldl_drumStep_inbox _ _

/-- Every voice's counter goes down by one and stays at 0 (rule R112). -/
theorem drumCountdown_countAt (s : State) (v : Nat) :
    drumCountAt (drumCountdown s) v = if v < s.params.nDrum then drumCountAt s v - 1 else drumCountAt s v := by
  simp [drumCountdown, foldl_drumStep_countAt _ List.nodup_range]

/-- A line goes idle exactly where its counter reaches 0 in this tick (rule R112). -/
theorem drumCountdown_trig (s : State) (v : Nat) :
    (drumCountdown s).trig[v]? =
      if v < s.params.nDrum ∧ drumCountAt s v = 1 then s.trig[v]?.map fun _ => .idleLvl else s.trig[v]? := by
  simp [drumCountdown, foldl_drumStep_trig _ List.nodup_range]

@[simp] theorem drumCountdown_trace (s : State) : (drumCountdown s).trace = s.trace ++ drumEvents s :=
  foldl_drumStep_trace _ List.nodup_range s

@[simp] theorem drumCountdown_drumCount_length (s : State) :
    (drumCountdown s).drumCount.length = s.drumCount.length := (foldl_drumStep_lengths _ s).1

@[simp] theorem drumCountdown_trig_length (s : State) : (drumCountdown s).trig.length = s.trig.length :=
  (foldl_drumStep_lengths _ s).2

/-! ### Configuration writes -/

@[simp] theorem writeParam_vca (id : ParamId) (val : Byte) (s : State) : (writeParam id val s).vca = s.vca := by
  cases id <;> rfl
@[simp] theorem writeParam_vcf (id : ParamId) (val : Byte) (s : State) : (writeParam id val s).vcf = s.vcf := by
  cases id <;> rfl
@[simp] theorem writeParam_midi (id : ParamId) (val : Byte) (s : State) : (writeParam id val s).midi = s.midi := by
  cases id <;> rfl
@[simp] theorem writeParam_drumCount (id : ParamId) (val : Byte) (s : State) : (writeParam id val s).drumCount = s.drumCount := by
  cases id <;> rfl
@[simp] theorem writeParam_trig (id : ParamId) (val : Byte) (s : State) : (writeParam id val s).trig = s.trig := by
  cases id <;> rfl
@[simp] theorem writeParam_p (id : ParamId) (val : Byte) (s : State) : (writeParam id val s).p = s.p := by
  cases id <;> rfl
@[simp] theorem writeParam_busy (id : ParamId) (val : Byte) (s : State) : (writeParam id val s).busy = s.busy := by
  cases id <;> rfl
@[simp] theorem writeParam_bankSel (id : ParamId) (val : Byte) (s : State) : (writeParam id val s).bankSel = s.bankSel := by
  cases id <;> rfl
@[simp] theorem writeParam_overlapFaults (id : ParamId) (val : Byte) (s : State) : (writeParam id val s).overlapFaults = s.overlapFaults := by
  cases id <;> rfl
@[simp] theorem writeParam_params (id : ParamId) (val : Byte) (s : State) : (writeParam id val s).params = s.params := by
  cases id <;> rfl
@[simp] theorem writeParam_inbox (id : ParamId) (val : Byte) (s : State) : (writeParam id val s).inbox = s.inbox := by
  cases id <;> rfl
@[simp] theorem writeParam_trace (id : ParamId) (val : Byte) (s : State) : (writeParam id val s).trace = s.trace := by
  cases id <;> rfl

@[simp] theorem paramUpdate_vca (cc val : Byte) (s : State) : (paramUpdate cc val s).vca = s.vca := by
  simp only [paramUpdate]; split <;> simp
@[simp] theorem paramUpdate_vcf (cc val : Byte) (s : State) : (paramUpdate cc val s).vcf = s.vcf := by
  simp only [paramUpdate]; split <;> simp
@[simp] theorem paramUpdate_midi (cc val : Byte) (s : State) : (paramUpdate cc val s).midi = s.midi := by
  simp only [paramUpdate]; split <;> simp
@[simp] theorem paramUpdate_drumCount (cc val : Byte) (s : State) : (paramUpdate cc val s).drumCount = s.drumCount := by
  simp only [paramUpdate]; split <;> simp
@[simp] theorem paramUpdate_trig (cc val : Byte) (s : State) : (paramUpdate cc val s).trig = s.trig := by
  simp only [paramUpdate]; split <;> simp
@[simp] theorem paramUpdate_p (cc val : Byte) (s : State) : (paramUpdate cc val s).p = s.p := by
  simp only [paramUpdate]; split <;> simp
@[simp] theorem paramUpdate_busy (cc val : Byte) (s : State) : (paramUpdate cc val s).busy = s.busy := by
  simp only [paramUpdate]; split <;> simp
@[simp] theorem paramUpdate_bankSel (cc val : Byte) (s : State) : (paramUpdate cc val s).bankSel = s.bankSel := by
  simp only [paramUpdate]; split <;> simp
@[simp] theorem paramUpdate_overlapFaults (cc val : Byte) (s : State) : (paramUpdate cc val s).overlapFaults = s.overlapFaults := by
  simp only [paramUpdate]; split <;> simp
@[simp] theorem paramUpdate_params (cc val : Byte) (s : State) : (paramUpdate cc val s).params = s.params := by
  simp only [paramUpdate]; split <;> simp
@[simp] theorem paramUpdate_inbox (cc val : Byte) (s : State) : (paramUpdate cc val s).inbox = s.inbox := by
  simp only [paramUpdate]; split <;> simp
@[simp] theorem paramUpdate_trace (cc val : Byte) (s : State) : (paramUpdate cc val s).trace = s.trace := by
  simp only [paramUpdate]; split <;> simp

/-! ### The envelopes -/

@[simp] theorem emitVca_cfgVca (level : ℚ) (s : State) : (emitVca level s).cfgVca = s.cfgVca := by simp [emitVca]
@[simp] theorem emitVca_cfgVcf (level : ℚ) (s : State) : (emitVca level s).cfgVcf = s.cfgVcf := by simp [emitVca]
@[simp] theorem emitVca_glob (level : ℚ) (s : State) : (emitVca level s).glob = s.glob := by simp [emitVca]
@[simp] theorem emitVca_aux (level : ℚ) (s : State) : (emitVca level s).aux = s.aux := by simp [emitVca]
@[simp] theorem emitVca_vca (level : ℚ) (s : State) : (emitVca level s).vca = s.vca := by simp [emitVca]
@[simp] theorem emitVca_vcf (level : ℚ) (s : State) : (emitVca level s).vcf = s.vcf := by simp [emitVca]
@[simp] theorem emitVca_midi (level : ℚ) (s : State) : (emitVca level s).midi = s.midi := by simp [emitVca]
@[simp] theorem emitVca_drumCount (level : ℚ) (s : State) : (emitVca level s).drumCount = s.drumCount := by simp [emitVca]
@[simp] theorem emitVca_trig (level : ℚ) (s : State) : (emitVca level s).trig = s.trig := by simp [emitVca]
@[simp] theorem emitVca_p (level : ℚ) (s : State) : (emitVca level s).p = s.p := by simp [emitVca]
@[simp] theorem emitVca_params (level : ℚ) (s : State) : (emitVca level s).params = s.params := by simp [emitVca]
@[simp] theorem emitVca_inbox (level : ℚ) (s : State) : (emitVca level s).inbox = s.inbox := by simp [emitVca]
@[simp] theorem emitVca_busy_after (level : ℚ) (s : State) : (emitVca level s).busy = true := by simp [emitVca]
@[simp] theorem emitVcf_cfgVca (level : ℚ) (s : State) : (emitVcf level s).cfgVca = s.cfgVca := by simp [emitVcf]
@[simp] theorem emitVcf_cfgVcf (level : ℚ) (s : State) : (emitVcf level s).cfgVcf = s.cfgVcf := by simp [emitVcf]
@[simp] theorem emitVcf_glob (level : ℚ) (s : State) : (emitVcf level s).glob = s.glob := by simp [emitVcf]
@[simp] theorem emitVcf_aux (level : ℚ) (s : State) : (emitVcf level s).aux = s.aux := by simp [emitVcf]
@[simp] theorem emitVcf_vca (level : ℚ) (s : State) : (emitVcf level s).vca = s.vca := by simp [emitVcf]
@[simp] theorem emitVcf_vcf (level : ℚ) (s : State) : (emitVcf level s).vcf = s.vcf := by simp [emitVcf]
@[simp] theorem emitVcf_midi (level : ℚ) (s : State) : (emitVcf level s).midi = s.midi := by simp [emitVcf]
@[simp] theorem emitVcf_drumCount (level : ℚ) (s : State) : (emitVcf level s).drumCount = s.drumCount := by simp [emitVcf]
@[simp] theorem emitVcf_trig (level : ℚ) (s : State) : (emitVcf level s).trig = s.trig := by simp [emitVcf]
@[simp] theorem emitVcf_p (level : ℚ) (s : State) : (emitVcf level s).p = s.p := by simp [emitVcf]
@[simp] theorem emitVcf_params (level : ℚ) (s : State) : (emitVcf level s).params = s.params := by simp [emitVcf]
@[simp] theorem emitVcf_inbox (level : ℚ) (s : State) : (emitVcf level s).inbox = s.inbox := by simp [emitVcf]
@[simp] theorem emitVcf_busy_after (level : ℚ) (s : State) : (emitVcf level s).busy = true := by simp [emitVcf]

@[simp] theorem vcaStep_cfgVca (s : State) : (vcaStep s).cfgVca = s.cfgVca := by
  simp only [vcaStep, vcaStepIdle, vcaStepAttack, vcaStepDecay, vcaStepRelease]; split <;> (try split_ifs) <;> simp
@[simp] theorem vcaStep_cfgVcf (s : State) : (vcaStep s).cfgVcf = s.cfgVcf := by
  simp only [vcaStep, vcaStepIdle, vcaStepAttack, vcaStepDecay, vcaStepRelease]; split <;> (try split_ifs) <;> simp
@[simp] theorem vcaStep_glob (s : State) : (vcaStep s).glob = s.glob := by
  simp only [vcaStep, vcaStepIdle, vcaStepAttack, vcaStepDecay, vcaStepRelease]; split <;> (try split_ifs) <;> simp
@[simp] theorem vcaStep_aux (s : State) : (vcaStep s).aux = s.aux := by
  simp only [vcaStep, vcaStepIdle, vcaStepAttack, vcaStepDecay, vcaStepRelease]; split <;> (try split_ifs) <;> simp
@[simp] theorem vcaStep_vcf (s : State) : (vcaStep s).vcf = s.vcf := by
  simp only [vcaStep, vcaStepIdle, vcaStepAttack, vcaStepDecay, vcaStepRelease]; split <;> (try split_ifs) <;> simp
@[simp] theorem vcaStep_midi (s : State) : (vcaStep s).midi = s.midi := by
  simp only [vcaStep, vcaStepIdle, vcaStepAttack, vcaStepDecay, vcaStepRelease]; split <;> (try split_ifs) <;> simp
@[simp] theorem vcaStep_drumCount (s : State) : (vcaStep s).drumCount = s.drumCount := by
  simp only [vcaStep, vcaStepIdle, vcaStepAttack, vcaStepDecay, vcaStepRelease]; split <;> (try split_ifs) <;> simp
@[simp] theorem vcaStep_trig (s : State) : (vcaStep s).trig = s.trig := by
  simp only [vcaStep, vcaStepIdle, vcaStepAttack, vcaStepDecay, vcaStepRelease]; split <;> (try split_ifs) <;> simp
@[simp] theorem vcaStep_p (s : State) : (vcaStep s).p = s.p := by
  simp only [vcaStep, vcaStepIdle, vcaStepAttack, vcaStepDecay, vcaStepRelease]; split <;> (try split_ifs) <;> simp
@[simp] theorem vcaStep_params (s : State) : (vcaStep s).params = s.params := by
  simp only [vcaStep, vcaStepIdle, vcaStepAttack, vcaStepDecay, vcaStepRelease]; split <;> (try split_ifs) <;> simp
@[simp] theorem vcaStep_inbox (s : State) : (vcaStep s).inbox = s.inbox := by
  simp only [vcaStep, vcaStepIdle, vcaStepAttack, vcaStepDecay, vcaStepRelease]; split <;> (try split_ifs) <;> simp

@[simp] theorem vcfStep_cfgVca (s : State) : (vcfStep s).cfgVca = s.cfgVca := by
  simp only [vcfStep, vcfStepIdle, vcfStepAttack, vcfStepDecay, vcfStepRelease]; split <;> (try split_ifs) <;> simp
@[simp] theorem vcfStep_cfgVcf (s : State) : (vcfStep s).cfgVcf = s.cfgVcf := by
  simp only [vcfStep, vcfStepIdle, vcfStepAttack, vcfStepDecay, vcfStepRelease]; split <;> (try split_ifs) <;> simp
@[simp] theorem vcfStep_glob (s : State) : (vcfStep s).glob = s.glob := by
  simp only [vcfStep, vcfStepIdle, vcfStepAttack, vcfStepDecay, vcfStepRelease]; split <;> (try split_ifs) <;> simp
@[simp] theorem vcfStep_aux (s : State) : (vcfStep s).aux = s.aux := by
  simp only [vcfStep, vcfStepIdle, vcfStepAttack, vcfStepDecay, vcfStepRelease]; split <;> (try split_ifs) <;> simp
@[simp] theorem vcfStep_vca (s : State) : (vcfStep s).vca = s.vca := by
  simp only [vcfStep, vcfStepIdle, vcfStepAttack, vcfStepDecay, vcfStepRelease]; split <;> (try split_ifs) <;> simp
@[simp] theorem vcfStep_midi (s : State) : (vcfStep s).midi = s.midi := by
  simp only [vcfStep, vcfStepIdle, vcfStepAttack, vcfStepDecay, vcfStepRelease]; split <;> (try split_ifs) <;> simp
@[simp] theorem vcfStep_drumCount (s : State) : (vcfStep s).drumCount = s.drumCount := by
  simp only [vcfStep, vcfStepIdle, vcfStepAttack, vcfStepDecay, vcfStepRelease]; split <;> (try split_ifs) <;> simp
@[simp] theorem vcfStep_trig (s : State) : (vcfStep s).trig = s.trig := by
  simp only [vcfStep, vcfStepIdle, vcfStepAttack, vcfStepDecay, vcfStepRelease]; split <;> (try split_ifs) <;> simp
@[simp] theorem vcfStep_p (s : State) : (vcfStep s).p = s.p := by
  simp only [vcfStep, vcfStepIdle, vcfStepAttack, vcfStepDecay, vcfStepRelease]; split <;> (try split_ifs) <;> simp
@[simp] theorem vcfStep_params (s : State) : (vcfStep s).params = s.params := by
  simp only [vcfStep, vcfStepIdle, vcfStepAttack, vcfStepDecay, vcfStepRelease]; split <;> (try split_ifs) <;> simp
@[simp] theorem vcfStep_inbox (s : State) : (vcfStep s).inbox = s.inbox := by
  simp only [vcfStep, vcfStepIdle, vcfStepAttack, vcfStepDecay, vcfStepRelease]; split <;> (try split_ifs) <;> simp

/-- What a VCA step in each state leaves in the runtime (rules R86 to R89). -/
theorem vcaStep_vca (s : State) :
    (vcaStep s).vca =
      match s.vca.state with
      | .idle => s.vca
      | .attack => vcaAttackNext s.params s.cfgVca s.vca
      | .decay => if s.vca.currentLevel ≤ s.vca.targetLevel then s.vca else vcaDecayNext s.vca
      | .release => if s.vca.currentLevel ≤ 0 then { s.vca with state := .idle } else vcaReleaseNext s.vca := by
  cases h : s.vca.state <;> simp only [vcaStep, vcaStepIdle, vcaStepAttack, vcaStepDecay, vcaStepRelease, h] <;>
    (try split_ifs) <;> simp

/-- What a VCF step in each state leaves in the runtime (rules R90 to R93). -/
theorem vcfStep_vcf (s : State) :
    (vcfStep s).vcf =
      match s.vcf.state with
      | .idle => s.vcf
      | .attack => vcfAttackNext s.params s.cfgVcf s.glob.vcfCutoff s.vcf
      | .decay => if s.vcf.elapsedTicks ≥ s.vcf.ticksToTarget then s.vcf else vcfDecayNext s.vcf
      | .release =>
        if s.vcf.elapsedTicks ≥ s.vcf.ticksToTarget then { s.vcf with state := .idle } else vcfReleaseNext s.vcf := by
  cases h : s.vcf.state <;> simp only [vcfStep, vcfStepIdle, vcfStepAttack, vcfStepDecay, vcfStepRelease, h] <;>
    (try split_ifs) <;> simp

@[simp] theorem noteOn_cfgVca (note vel : Byte) (s : State) : (noteOn note vel s).cfgVca = s.cfgVca := by
  simp [noteOn, noteOnVca, noteOnVcf]
@[simp] theorem noteOn_cfgVcf (note vel : Byte) (s : State) : (noteOn note vel s).cfgVcf = s.cfgVcf := by
  simp [noteOn, noteOnVca, noteOnVcf]
@[simp] theorem noteOn_glob (note vel : Byte) (s : State) : (noteOn note vel s).glob = s.glob := by
  simp [noteOn, noteOnVca, noteOnVcf]
@[simp] theorem noteOn_aux (note vel : Byte) (s : State) : (noteOn note vel s).aux = s.aux := by
  simp [noteOn, noteOnVca, noteOnVcf]
@[simp] theorem noteOn_drumCount (note vel : Byte) (s : State) : (noteOn note vel s).drumCount = s.drumCount := by
  simp [noteOn, noteOnVca, noteOnVcf]
@[simp] theorem noteOn_trig (note vel : Byte) (s : State) : (noteOn note vel s).trig = s.trig := by
  simp [noteOn, noteOnVca, noteOnVcf]
@[simp] theorem noteOn_p (note vel : Byte) (s : State) : (noteOn note vel s).p = s.p := by
  simp [noteOn, noteOnVca, noteOnVcf]
@[simp] theorem noteOn_busy (note vel : Byte) (s : State) : (noteOn note vel s).busy = s.busy := by
  simp [noteOn, noteOnVca, noteOnVcf]
@[simp] theorem noteOn_bankSel (note vel : Byte) (s : State) : (noteOn note vel s).bankSel = s.bankSel := by
  simp [noteOn, noteOnVca, noteOnVcf]
@[simp] theorem noteOn_overlapFaults (note vel : Byte) (s : State) : (noteOn note vel s).overlapFaults = s.overlapFaults := by
  simp [noteOn, noteOnVca, noteOnVcf]
@[simp] theorem noteOn_params (note vel : Byte) (s : State) : (noteOn note vel s).params = s.params := by
  simp [noteOn, noteOnVca, noteOnVcf]
@[simp] theorem noteOn_inbox (note vel : Byte) (s : State) : (noteOn note vel s).inbox = s.inbox := by
  simp [noteOn, noteOnVca, noteOnVcf]
@[simp] theorem noteOn_trace (note vel : Byte) (s : State) : (noteOn note vel s).trace = s.trace := by
  simp [noteOn, noteOnVca, noteOnVcf]

@[simp] theorem noteOff_cfgVca (s : State) : (noteOff s).cfgVca = s.cfgVca := by
  simp [noteOff, noteOffVca, noteOffVcf]
@[simp] theorem noteOff_cfgVcf (s : State) : (noteOff s).cfgVcf = s.cfgVcf := by
  simp [noteOff, noteOffVca, noteOffVcf]
@[simp] theorem noteOff_glob (s : State) : (noteOff s).glob = s.glob := by
  simp [noteOff, noteOffVca, noteOffVcf]
@[simp] theorem noteOff_aux (s : State) : (noteOff s).aux = s.aux := by
  simp [noteOff, noteOffVca, noteOffVcf]
@[simp] theorem noteOff_midi (s : State) : (noteOff s).midi = s.midi := by
  simp [noteOff, noteOffVca, noteOffVcf]
@[simp] theorem noteOff_drumCount (s : State) : (noteOff s).drumCount = s.drumCount := by
  simp [noteOff, noteOffVca, noteOffVcf]
@[simp] theorem noteOff_trig (s : State) : (noteOff s).trig = s.trig := by
  simp [noteOff, noteOffVca, noteOffVcf]
@[simp] theorem noteOff_p (s : State) : (noteOff s).p = s.p := by
  simp [noteOff, noteOffVca, noteOffVcf]
@[simp] theorem noteOff_busy (s : State) : (noteOff s).busy = s.busy := by
  simp [noteOff, noteOffVca, noteOffVcf]
@[simp] theorem noteOff_bankSel (s : State) : (noteOff s).bankSel = s.bankSel := by
  simp [noteOff, noteOffVca, noteOffVcf]
@[simp] theorem noteOff_overlapFaults (s : State) : (noteOff s).overlapFaults = s.overlapFaults := by
  simp [noteOff, noteOffVca, noteOffVcf]
@[simp] theorem noteOff_params (s : State) : (noteOff s).params = s.params := by
  simp [noteOff, noteOffVca, noteOffVcf]
@[simp] theorem noteOff_inbox (s : State) : (noteOff s).inbox = s.inbox := by
  simp [noteOff, noteOffVca, noteOffVcf]
@[simp] theorem noteOff_trace (s : State) : (noteOff s).trace = s.trace := by
  simp [noteOff, noteOffVca, noteOffVcf]

/-! ### The slow update and the tick -/

@[simp] theorem slowUpdate_cfgVca (ph : Nat) (s : State) : (slowUpdate ph s).cfgVca = s.cfgVca := by
  simp only [slowUpdate, pitchA, pitchB]; split <;> simp
@[simp] theorem slowUpdate_cfgVcf (ph : Nat) (s : State) : (slowUpdate ph s).cfgVcf = s.cfgVcf := by
  simp only [slowUpdate, pitchA, pitchB]; split <;> simp
@[simp] theorem slowUpdate_glob (ph : Nat) (s : State) : (slowUpdate ph s).glob = s.glob := by
  simp only [slowUpdate, pitchA, pitchB]; split <;> simp
@[simp] theorem slowUpdate_aux (ph : Nat) (s : State) : (slowUpdate ph s).aux = s.aux := by
  simp only [slowUpdate, pitchA, pitchB]; split <;> simp
@[simp] theorem slowUpdate_midi (ph : Nat) (s : State) : (slowUpdate ph s).midi = s.midi := by
  simp only [slowUpdate, pitchA, pitchB]; split <;> simp
@[simp] theorem slowUpdate_drumCount (ph : Nat) (s : State) : (slowUpdate ph s).drumCount = s.drumCount := by
  simp only [slowUpdate, pitchA, pitchB]; split <;> simp
@[simp] theorem slowUpdate_trig (ph : Nat) (s : State) : (slowUpdate ph s).trig = s.trig := by
  simp only [slowUpdate, pitchA, pitchB]; split <;> simp
@[simp] theorem slowUpdate_p (ph : Nat) (s : State) : (slowUpdate ph s).p = s.p := by
  simp only [slowUpdate, pitchA, pitchB]; split <;> simp
@[simp] theorem slowUpdate_params (ph : Nat) (s : State) : (slowUpdate ph s).params = s.params := by
  simp only [slowUpdate, pitchA, pitchB]; split <;> simp
@[simp] theorem slowUpdate_inbox (ph : Nat) (s : State) : (slowUpdate ph s).inbox = s.inbox := by
  simp only [slowUpdate, pitchA, pitchB]; split <;> simp
@[simp] theorem slowUpdate_vca (ph : Nat) (s : State) : (slowUpdate ph s).vca = if ph = 2 then (vcaStep s).vca else s.vca := by
  simp only [slowUpdate, pitchA, pitchB]; split <;> simp_all
@[simp] theorem slowUpdate_vcf (ph : Nat) (s : State) : (slowUpdate ph s).vcf = if ph = 3 then (vcfStep s).vcf else s.vcf := by
  simp only [slowUpdate, pitchA, pitchB]; split <;> simp_all

/-- Emission reads only the parameters, the gate and the trace. -/
theorem emit_congr {s u : State} (hp : u.params = s.params) (hb : u.busy = s.busy) (hs : u.bankSel = s.bankSel)
    (hf : u.overlapFaults = s.overlapFaults) (ht : u.trace = s.trace) (out : LogicalOutput) (value : ℤ) :
    (emit out value u).bankSel = (emit out value s).bankSel ∧
    (emit out value u).overlapFaults = (emit out value s).overlapFaults ∧
    (emit out value u).trace = (emit out value s).trace := by
  cases h : s.busy
  · rw [emit_free h, emit_free (hb.trans h)]; simp [hp, hf, ht]
  · rw [emit_busy h, emit_busy (hb.trans h)]; simp [hp, hs, hf, ht]

/-- What one slow update can do to the gate and the trace: nothing, or one emission (rule R113). -/
theorem slowUpdate_gate (ph : Nat) (s : State) :
    ((slowUpdate ph s).busy = s.busy ∧ (slowUpdate ph s).bankSel = s.bankSel ∧
      (slowUpdate ph s).overlapFaults = s.overlapFaults ∧ (slowUpdate ph s).trace = s.trace) ∨
    ∃ out value, (slowUpdate ph s).busy = true ∧ (slowUpdate ph s).bankSel = (emit out value s).bankSel ∧
      (slowUpdate ph s).overlapFaults = (emit out value s).overlapFaults ∧
      (slowUpdate ph s).trace = (emit out value s).trace := by
  simp only [slowUpdate, pitchA, pitchB, vcaStep, vcaStepIdle, vcaStepAttack, vcaStepDecay, vcaStepRelease, vcfStep,
    vcfStepIdle, vcfStepAttack, vcfStepDecay, vcfStepRelease, emitVca, emitVcf]
  repeat' split
  all_goals first
    | exact .inl ⟨rfl, rfl, rfl, rfl⟩
    | exact .inr ⟨_, _, by simp, rfl, rfl, rfl⟩
    | exact .inr ⟨_, _, by simp, emit_congr (by rfl) (by rfl) (by rfl) (by rfl) (by rfl) _ _⟩

@[simp] theorem tick_cfgVca (s : State) : (tick s).cfgVca = s.cfgVca := by simp [tick, advancePhase]
@[simp] theorem tick_cfgVcf (s : State) : (tick s).cfgVcf = s.cfgVcf := by simp [tick, advancePhase]
@[simp] theorem tick_glob (s : State) : (tick s).glob = s.glob := by simp [tick, advancePhase]
@[simp] theorem tick_aux (s : State) : (tick s).aux = s.aux := by simp [tick, advancePhase]
@[simp] theorem tick_midi (s : State) : (tick s).midi = s.midi := by simp [tick, advancePhase]
@[simp] theorem tick_params (s : State) : (tick s).params = s.params := by simp [tick, advancePhase]
@[simp] theorem tick_inbox (s : State) : (tick s).inbox = s.inbox := by simp [tick, advancePhase]
@[simp] theorem tick_p (s : State) : (tick s).p = (s.p + 1) % s.params.k := by simp [tick, advancePhase]
@[simp] theorem tick_drumCount (s : State) : (tick s).drumCount = (drumCountdown s).drumCount := by simp [tick, advancePhase]
@[simp] theorem tick_trig (s : State) : (tick s).trig = (drumCountdown s).trig := by simp [tick, advancePhase]

/-- What a tick can do to the gate and the trace: the trigger events of its countdown, and then nothing or one
emission (rules R111, R112, R113). -/
theorem tick_gate (s : State) :
    ((tick s).busy = s.busy ∧ (tick s).bankSel = s.bankSel ∧ (tick s).overlapFaults = s.overlapFaults ∧
      (tick s).trace = s.trace ++ drumEvents s) ∨
    ∃ out value, (tick s).busy = true ∧ (tick s).bankSel = (emit out value (drumCountdown s)).bankSel ∧
      (tick s).overlapFaults = (emit out value (drumCountdown s)).overlapFaults ∧
      (tick s).trace = (emit out value (drumCountdown s)).trace := by
  simpa [tick, advancePhase] using slowUpdate_gate s.p (drumCountdown s)

/-- A tick's trigger events put lines of the block to idle (rule R112). -/
theorem eq_setTrigger_of_mem_drumEvents {s : State} {x : OutEvent} (h : x ∈ drumEvents s) :
    ∃ v, v < s.params.nDrum ∧ x = .setTrigger v .idleLvl := by
  simp only [drumEvents, List.mem_map, List.mem_filter, List.mem_range] at h
  obtain ⟨v, ⟨hv, _⟩, rfl⟩ := h
  exact ⟨v, hv, rfl⟩

end Sys2Proof.Machine
end

