-- ==== Sys2Proof/Laws/PerInstr.lean ====
section
/-! SUPPORT. The family RowMatch: the encoded word of every well-formed instruction matches its own row of
spec/opcode_table.json. The table's matches are shown for TC, so the parameter set is TC with either value of
`NOTE_ON_VEL0_IS_OFF` (row NOTE_ON_VEL0_OFF is present only where it holds). -/

namespace Sys2Proof.Laws.RowMatch

/-- The mask of the instruction's row in spec/opcode_table.json. -/
def rowMask : Instr → EventWord
  | .drumNoteOn _ _ _ => 0x3FF0000#26
  | .noteOnVel0Off _ _ => 0x3F000FF#26
  | .noteOn _ _ _ => 0x3F00000#26
  | .noteOff _ _ _ => 0x3F00000#26
  | .controlChange _ _ _ => 0x3F00000#26
  | .ccVcaAttack _ _ _ => 0x3F0FF00#26
  | .ccVcaDecay _ _ _ => 0x3F0FF00#26
  | .ccVcaSustain _ _ _ => 0x3F0FF00#26
  | .ccVcaRelease _ _ _ => 0x3F0FF00#26
  | .ccVcfAttack _ _ _ => 0x3F0FF00#26
  | .ccVcfDecay _ _ _ => 0x3F0FF00#26
  | .ccVcfSustain _ _ _ => 0x3F0FF00#26
  | .ccVcfRelease _ _ _ => 0x3F0FF00#26
  | .ccVcaVelSens _ _ _ => 0x3F0FF00#26
  | .ccVcfVelSens _ _ _ => 0x3F0FF00#26
  | .ccKbdTracking _ _ _ => 0x3F0FF00#26
  | .ccEnvAmount _ _ _ => 0x3F0FF00#26
  | .ccCutoff _ _ _ => 0x3F0FF00#26
  | .ccResonance _ _ _ => 0x3F0FF00#26
  | .ccWaveform _ _ _ => 0x3F0FF00#26
  | .ccOctave _ _ _ => 0x3F0FF00#26
  | .ccDetune _ _ _ => 0x3F0FF00#26
  | .ccSync _ _ _ => 0x3F0FF00#26
  | .ccFilterOrder _ _ _ => 0x3F0FF00#26
  | .ignored _ _ _ _ => 0x3000000#26
  | .tick => 0x3000000#26
  | .done _ => 0x3000000#26
  | .reset => 0x3000000#26

/-- The match of the instruction's row in spec/opcode_table.json. -/
def rowMatch : Instr → EventWord
  | .drumNoteOn _ _ _ => 0x0990000#26
  | .noteOnVel0Off _ _ => 0x0900000#26
  | .noteOn _ _ _ => 0x0900000#26
  | .noteOff _ _ _ => 0x0800000#26
  | .controlChange _ _ _ => 0x0B00000#26
  | .ccVcaAttack _ _ _ => 0x0B01400#26
  | .ccVcaDecay _ _ _ => 0x0B01500#26
  | .ccVcaSustain _ _ _ => 0x0B01600#26
  | .ccVcaRelease _ _ _ => 0x0B01700#26
  | .ccVcfAttack _ _ _ => 0x0B01800#26
  | .ccVcfDecay _ _ _ => 0x0B01900#26
  | .ccVcfSustain _ _ _ => 0x0B01A00#26
  | .ccVcfRelease _ _ _ => 0x0B01B00#26
  | .ccVcaVelSens _ _ _ => 0x0B01C00#26
  | .ccVcfVelSens _ _ _ => 0x0B01D00#26
  | .ccKbdTracking _ _ _ => 0x0B01E00#26
  | .ccEnvAmount _ _ _ => 0x0B01F00#26
  | .ccCutoff _ _ _ => 0x0B04A00#26
  | .ccResonance _ _ _ => 0x0B04700#26
  | .ccWaveform _ _ _ => 0x0B06600#26
  | .ccOctave _ _ _ => 0x0B06700#26
  | .ccDetune _ _ _ => 0x0B06800#26
  | .ccSync _ _ _ => 0x0B06900#26
  | .ccFilterOrder _ _ _ => 0x0B06A00#26
  | .ignored _ _ _ _ => 0x0000000#26
  | .tick => 0x1000000#26
  | .done _ => 0x2000000#26
  | .reset => 0x3000000#26

/-- TC with a chosen `NOTE_ON_VEL0_IS_OFF`. -/
def tcWith (vel0 : Bool) : Params := { Machine.tc with noteOnVel0IsOff := vel0 }

/-- The encoding of the instruction, where it is well formed, matches its row. -/
def Statement (i : Instr) : Prop := ∀ vel0 : Bool, i.wellFormed (tcWith vel0) = true → encode i &&& rowMask i = rowMatch i

/-- The CC number of the parameter's row. -/
def ccNumber : ParamId → Byte
  | .vcaAttack => 20#8
  | .vcaDecay => 21#8
  | .vcaSustain => 22#8
  | .vcaRelease => 23#8
  | .vcfAttack => 24#8
  | .vcfDecay => 25#8
  | .vcfSustain => 26#8
  | .vcfRelease => 27#8
  | .vcaVelSens => 28#8
  | .vcfVelSens => 29#8
  | .kbdTracking => 30#8
  | .envAmount => 31#8
  | .cutoff => 74#8
  | .resonance => 71#8
  | .waveform => 102#8
  | .octave => 103#8
  | .detune => 104#8
  | .sync => 105#8
  | .filterOrder => 106#8

/-- TC's `CC_MAP` gives each parameter its row's CC number. -/
theorem tc_ccMap_numbers :
    ∀ cc : Byte, (Machine.ccParam Machine.tc cc).all (fun id => decide (cc = ccNumber id)) = true := by
  decide +kernel

/-- The CC number that TC maps to a parameter is the one of the parameter's row. -/
theorem ccNumber_of_mapped (vel0 : Bool) (cc : Byte) (id : ParamId)
    (h : Instr.mappedTo (tcWith vel0) cc id = true) : cc = ccNumber id := by
  have hm : Machine.ccParam Machine.tc cc = some id := of_decide_eq_true h
  have ha := tc_ccMap_numbers cc
  rw [hm] at ha
  exact of_decide_eq_true ha

/-- A control-change word matches the row that fixes its CC number. -/
theorem dispatchWord_matches_cc (ch : Nibble) (cc val : Byte) :
    dispatchWord 11#4 ch cc val &&& 0x3F0FF00#26 = dispatchWord 11#4 0#4 cc 0#8 := by
  have := dispatchWord_and 11#4 ch 0xF#4 0#4 cc val 0xFF#8 0#8
  rw [show (0x3F0FF00#26 : EventWord) = 3#2 ++ 0xF#4 ++ 0#4 ++ 0xFF#8 ++ 0#8 from by decide, this,
    show (0xFF#8 : Byte) = BitVec.allOnes 8 from by decide, BitVec.and_allOnes]
  simp

/-- A message word matches the row that fixes its kind only. -/
theorem dispatchWord_matches_kind (k ch : Nibble) (d1 d2 : Byte) :
    dispatchWord k ch d1 d2 &&& 0x3F00000#26 = dispatchWord k 0#4 0#8 0#8 := by
  have := dispatchWord_and k ch 0xF#4 0#4 d1 d2 0#8 0#8
  rw [show (0x3F00000#26 : EventWord) = 3#2 ++ 0xF#4 ++ 0#4 ++ 0#8 ++ 0#8 from by decide, this,
    show (0xF#4 : Nibble) = BitVec.allOnes 4 from by decide, BitVec.and_allOnes]
  simp

theorem drumNoteOn (ch : Nibble) (note vel : Byte) : Statement (.drumNoteOn ch note vel) := fun vel0 h => by
  have hc : ch = 9#4 := by
    have h' : ch.toNat = 9 := of_decide_eq_true h
    exact BitVec.eq_of_toNat_eq h'
  subst hc
  have := dispatchWord_and 9#4 9#4 0xF#4 0xF#4 note vel 0#8 0#8
  rw [show (3#2 ++ 0xF#4 ++ 0xF#4 ++ 0#8 ++ 0#8 : EventWord) = 0x3FF0000#26 from by decide] at this
  exact this.trans (by simp; show _ = 0x0990000#26; decide)
theorem noteOnVel0Off (ch : Nibble) (note : Byte) : Statement (.noteOnVel0Off ch note) := fun _ _ => by
  have := dispatchWord_and 9#4 ch 0xF#4 0#4 note 0#8 0#8 0xFF#8
  rw [show (3#2 ++ 0xF#4 ++ 0#4 ++ 0#8 ++ 0xFF#8 : EventWord) = 0x3F000FF#26 from by decide] at this
  exact this.trans (by simp; show _ = 0x0900000#26; decide)
theorem noteOn (ch : Nibble) (note vel : Byte) : Statement (.noteOn ch note vel) := fun _ _ =>
  (dispatchWord_matches_kind _ _ _ _).trans (by show _ = 0x0900000#26; decide)
theorem noteOff (ch : Nibble) (note vel : Byte) : Statement (.noteOff ch note vel) := fun _ _ =>
  (dispatchWord_matches_kind _ _ _ _).trans (by show _ = 0x0800000#26; decide)
theorem controlChange (ch : Nibble) (cc val : Byte) : Statement (.controlChange ch cc val) := fun _ _ =>
  (dispatchWord_matches_kind _ _ _ _).trans (by show _ = 0x0B00000#26; decide)
theorem ccVcaAttack (ch : Nibble) (cc val : Byte) : Statement (.ccVcaAttack ch cc val) := fun vel0 h => by
  rw [ccNumber_of_mapped vel0 cc _ h]
  exact (dispatchWord_matches_cc ch _ val).trans (by show _ = 0x0B01400#26; decide)
theorem ccVcaDecay (ch : Nibble) (cc val : Byte) : Statement (.ccVcaDecay ch cc val) := fun vel0 h => by
  rw [ccNumber_of_mapped vel0 cc _ h]
  exact (dispatchWord_matches_cc ch _ val).trans (by show _ = 0x0B01500#26; decide)
theorem ccVcaSustain (ch : Nibble) (cc val : Byte) : Statement (.ccVcaSustain ch cc val) := fun vel0 h => by
  rw [ccNumber_of_mapped vel0 cc _ h]
  exact (dispatchWord_matches_cc ch _ val).trans (by show _ = 0x0B01600#26; decide)
theorem ccVcaRelease (ch : Nibble) (cc val : Byte) : Statement (.ccVcaRelease ch cc val) := fun vel0 h => by
  rw [ccNumber_of_mapped vel0 cc _ h]
  exact (dispatchWord_matches_cc ch _ val).trans (by show _ = 0x0B01700#26; decide)
theorem ccVcfAttack (ch : Nibble) (cc val : Byte) : Statement (.ccVcfAttack ch cc val) := fun vel0 h => by
  rw [ccNumber_of_mapped vel0 cc _ h]
  exact (dispatchWord_matches_cc ch _ val).trans (by show _ = 0x0B01800#26; decide)
theorem ccVcfDecay (ch : Nibble) (cc val : Byte) : Statement (.ccVcfDecay ch cc val) := fun vel0 h => by
  rw [ccNumber_of_mapped vel0 cc _ h]
  exact (dispatchWord_matches_cc ch _ val).trans (by show _ = 0x0B01900#26; decide)
theorem ccVcfSustain (ch : Nibble) (cc val : Byte) : Statement (.ccVcfSustain ch cc val) := fun vel0 h => by
  rw [ccNumber_of_mapped vel0 cc _ h]
  exact (dispatchWord_matches_cc ch _ val).trans (by show _ = 0x0B01A00#26; decide)
theorem ccVcfRelease (ch : Nibble) (cc val : Byte) : Statement (.ccVcfRelease ch cc val) := fun vel0 h => by
  rw [ccNumber_of_mapped vel0 cc _ h]
  exact (dispatchWord_matches_cc ch _ val).trans (by show _ = 0x0B01B00#26; decide)
theorem ccVcaVelSens (ch : Nibble) (cc val : Byte) : Statement (.ccVcaVelSens ch cc val) := fun vel0 h => by
  rw [ccNumber_of_mapped vel0 cc _ h]
  exact (dispatchWord_matches_cc ch _ val).trans (by show _ = 0x0B01C00#26; decide)
theorem ccVcfVelSens (ch : Nibble) (cc val : Byte) : Statement (.ccVcfVelSens ch cc val) := fun vel0 h => by
  rw [ccNumber_of_mapped vel0 cc _ h]
  exact (dispatchWord_matches_cc ch _ val).trans (by show _ = 0x0B01D00#26; decide)
theorem ccKbdTracking (ch : Nibble) (cc val : Byte) : Statement (.ccKbdTracking ch cc val) := fun vel0 h => by
  rw [ccNumber_of_mapped vel0 cc _ h]
  exact (dispatchWord_matches_cc ch _ val).trans (by show _ = 0x0B01E00#26; decide)
theorem ccEnvAmount (ch : Nibble) (cc val : Byte) : Statement (.ccEnvAmount ch cc val) := fun vel0 h => by
  rw [ccNumber_of_mapped vel0 cc _ h]
  exact (dispatchWord_matches_cc ch _ val).trans (by show _ = 0x0B01F00#26; decide)
theorem ccCutoff (ch : Nibble) (cc val : Byte) : Statement (.ccCutoff ch cc val) := fun vel0 h => by
  rw [ccNumber_of_mapped vel0 cc _ h]
  exact (dispatchWord_matches_cc ch _ val).trans (by show _ = 0x0B04A00#26; decide)
theorem ccResonance (ch : Nibble) (cc val : Byte) : Statement (.ccResonance ch cc val) := fun vel0 h => by
  rw [ccNumber_of_mapped vel0 cc _ h]
  exact (dispatchWord_matches_cc ch _ val).trans (by show _ = 0x0B04700#26; decide)
theorem ccWaveform (ch : Nibble) (cc val : Byte) : Statement (.ccWaveform ch cc val) := fun vel0 h => by
  rw [ccNumber_of_mapped vel0 cc _ h]
  exact (dispatchWord_matches_cc ch _ val).trans (by show _ = 0x0B06600#26; decide)
theorem ccOctave (ch : Nibble) (cc val : Byte) : Statement (.ccOctave ch cc val) := fun vel0 h => by
  rw [ccNumber_of_mapped vel0 cc _ h]
  exact (dispatchWord_matches_cc ch _ val).trans (by show _ = 0x0B06700#26; decide)
theorem ccDetune (ch : Nibble) (cc val : Byte) : Statement (.ccDetune ch cc val) := fun vel0 h => by
  rw [ccNumber_of_mapped vel0 cc _ h]
  exact (dispatchWord_matches_cc ch _ val).trans (by show _ = 0x0B06800#26; decide)
theorem ccSync (ch : Nibble) (cc val : Byte) : Statement (.ccSync ch cc val) := fun vel0 h => by
  rw [ccNumber_of_mapped vel0 cc _ h]
  exact (dispatchWord_matches_cc ch _ val).trans (by show _ = 0x0B06900#26; decide)
theorem ccFilterOrder (ch : Nibble) (cc val : Byte) : Statement (.ccFilterOrder ch cc val) := fun vel0 h => by
  rw [ccNumber_of_mapped vel0 cc _ h]
  exact (dispatchWord_matches_cc ch _ val).trans (by show _ = 0x0B06A00#26; decide)
theorem ignored (kind ch : Nibble) (d1 d2 : Byte) : Statement (.ignored kind ch d1 d2) := fun _ _ => by
  have := dispatchWord_and kind ch 0#4 0#4 d1 d2 0#8 0#8
  rw [show (3#2 ++ 0#4 ++ 0#4 ++ 0#8 ++ 0#8 : EventWord) = 0x3000000#26 from by decide] at this
  exact this.trans (by simp; show _ = 0x0000000#26; decide)
theorem tick : Statement .tick := fun _ _ => by decide
theorem done (b : Byte) : Statement (.done b) := fun _ _ => by
  apply BitVec.eq_of_getLsbD_eq
  intro i hi
  simp only [encode, rowMask, rowMatch, BitVec.getLsbD_and, getLsbD_doneWord]
  interval_cases i <;> simp
theorem reset : Statement .reset := fun _ _ => by decide

end Sys2Proof.Laws.RowMatch
end

