-- ==== Sys2Proof/Tests/Slice0.lean ====
section
/-! SUPPORT. The model's own tests. Expected values come from the vectors of spec/95_test_vectors.md or are written out
from the encodings of spec/30_encoding.md; the witnesses at the end show states and operands that meet the hypotheses
of the statements. Levels are rationals, so the tests that compute one are decided by the kernel. -/

namespace Sys2Proof.Tests

set_option Elab.async false

open Sys2Proof Sys2Proof.Machine

/-- The next state, if the answer is one. -/
def nextOf : Result → Option State
  | .next t => some t
  | .fault _ => none
  | .refused _ => none

/-- TC with the NOTE_ON velocity 0 convention on. -/
def tcVel0 : Params := { tc with noteOnVel0IsOff := true }

/-! ### WellFormed: an ill-formed term for each check, refused -/

theorem test_wf_drumNoteOn : (Instr.drumNoteOn 8#4 36#8 1#8).wellFormed tc = false := by decide
theorem test_wf_noteOnVel0Off_channel : (Instr.noteOnVel0Off 9#4 60#8).wellFormed tcVel0 = false := by decide
theorem test_wf_noteOnVel0Off_flag : (Instr.noteOnVel0Off 0#4 60#8).wellFormed tc = false := by decide
theorem test_wf_noteOn_channel : (Instr.noteOn 9#4 60#8 1#8).wellFormed tc = false := by decide
theorem test_wf_noteOn_velocity : (Instr.noteOn 0#4 60#8 0#8).wellFormed tcVel0 = false := by decide
theorem test_wf_controlChange : (Instr.controlChange 0#4 74#8 1#8).wellFormed tc = false := by decide
theorem test_wf_cc_rows : ∀ id : ParamId, id ∈ tc.ccMap.map Prod.snd →
    (ccInstr id 0#4 1#8 64#8).wellFormed tc = false := by decide
theorem test_wf_cc_rows_other : ∀ e ∈ tc.ccMap, ∀ f ∈ tc.ccMap, e.1 ≠ f.1 →
    (ccInstr e.2 0#4 f.1 64#8).wellFormed tc = false := by decide +kernel
theorem test_wf_ignored : ∀ k ∈ [8#4, 9#4, 11#4], (Instr.ignored k 0#4 0#8 0#8).wellFormed tc = false := by decide

/-! ### Decode: every constructor's word, written out from rules R58, R59 and R62 and the CC_MAP of TC -/

theorem test_decode_notes :
    decode tc 0b00_1001_1001_00100100_01100100#26 = .drumNoteOn 9#4 36#8 100#8 ∧
    decode tcVel0 0b00_1001_0000_00111100_00000000#26 = .noteOnVel0Off 0#4 60#8 ∧
    decode tc 0b00_1001_0000_00111100_01111111#26 = .noteOn 0#4 60#8 127#8 ∧
    decode tc 0b00_1000_1001_00100100_00000000#26 = .noteOff 9#4 36#8 0#8 ∧
    decode tc 0b00_1011_0000_00000001_01000000#26 = .controlChange 0#4 1#8 64#8 := by decide

theorem test_decode_cc_envelopes :
    decode tc 0b00_1011_0000_00010100_00001001#26 = .ccVcaAttack 0#4 20#8 9#8 ∧
    decode tc 0b00_1011_0000_00010101_01111111#26 = .ccVcaDecay 0#4 21#8 127#8 ∧
    decode tc 0b00_1011_0000_00010110_01000000#26 = .ccVcaSustain 0#4 22#8 64#8 ∧
    decode tc 0b00_1011_0000_00010111_00000100#26 = .ccVcaRelease 0#4 23#8 4#8 ∧
    decode tc 0b00_1011_0000_00011000_00001001#26 = .ccVcfAttack 0#4 24#8 9#8 ∧
    decode tc 0b00_1011_0000_00011001_00001001#26 = .ccVcfDecay 0#4 25#8 9#8 ∧
    decode tc 0b00_1011_0000_00011010_00001001#26 = .ccVcfSustain 0#4 26#8 9#8 ∧
    decode tc 0b00_1011_0000_00011011_00001001#26 = .ccVcfRelease 0#4 27#8 9#8 := by decide

theorem test_decode_cc_others :
    decode tc 0b00_1011_0000_00011100_01111111#26 = .ccVcaVelSens 0#4 28#8 127#8 ∧
    decode tc 0b00_1011_0000_00011101_01111111#26 = .ccVcfVelSens 0#4 29#8 127#8 ∧
    decode tc 0b00_1011_0000_00011110_01111111#26 = .ccKbdTracking 0#4 30#8 127#8 ∧
    decode tc 0b00_1011_0011_00011111_11001000#26 = .ccEnvAmount 3#4 31#8 200#8 ∧
    decode tc 0b00_1011_1111_01001010_00100000#26 = .ccCutoff 15#4 74#8 32#8 ∧
    decode tc 0b00_1011_0000_01000111_00100000#26 = .ccResonance 0#4 71#8 32#8 ∧
    decode tc 0b00_1011_0000_01100110_00000011#26 = .ccWaveform 0#4 102#8 3#8 ∧
    decode tc 0b00_1011_0000_01100111_00000011#26 = .ccOctave 0#4 103#8 3#8 ∧
    decode tc 0b00_1011_0000_01101000_00000011#26 = .ccDetune 0#4 104#8 3#8 ∧
    decode tc 0b00_1011_0000_01101001_00000011#26 = .ccSync 0#4 105#8 3#8 ∧
    decode tc 0b00_1011_0000_01101010_00000011#26 = .ccFilterOrder 0#4 106#8 3#8 := by decide

theorem test_decode_system :
    decode tc 0b01_000000000000000000000000#26 = .tick ∧
    decode tc 0b01_111111111111111111111111#26 = .tick ∧
    decode tc 0b10_0000000000000000_00000001#26 = .done 1#8 ∧
    decode tc 0b10_1111111111111111_00000001#26 = .done 1#8 ∧
    decode tc 0b11_000000000000000000000000#26 = .reset := by decide

/-- Rows 2.7 of the vectors: the kinds that are ignored, a data byte as status, and row 1 before row 2. -/
theorem test_decode_first_match :
    decode tc 0x0A03C40#26 = .ignored 10#4 0#4 60#8 64#8 ∧
    decode tc 0x0C00500#26 = .ignored 12#4 0#4 5#8 0#8 ∧
    decode tc 0x0D04000#26 = .ignored 13#4 0#4 64#8 0#8 ∧
    decode tc 0x0E00040#26 = .ignored 14#4 0#4 0#8 64#8 ∧
    decode tc 0x0F80000#26 = .ignored 15#4 8#4 0#8 0#8 ∧
    decode tc 0x03C4000#26 = .ignored 3#4 12#4 64#8 0#8 ∧
    decode tcVel0 0x0992400#26 = .drumNoteOn 9#4 36#8 0#8 ∧
    decode tc 0x0903C00#26 = .noteOn 0#4 60#8 0#8 := by decide

/-- A number with a bit above bit 25 is no event word. -/
theorem test_decode_rejects : decodeNumber tc 0x4000000 = .error .notAnEventWord := by decide
theorem test_decodeTableWord : decodeTableWord 32 0x0903C7F = some (.noteOn 0#4 60#8 127#8) := by decide

/-- The words of programs P1 and P3. -/
theorem test_encode :
    encode (.noteOn 0#4 60#8 127#8) = 0x0903C7F#26 ∧ encode (.noteOff 9#4 38#8 0#8) = 0x0892600#26 ∧
    encode (.ccVcaVelSens 0#4 28#8 127#8) = 0x0B01C7F#26 ∧ encode (.drumNoteOn 9#4 38#8 64#8) = 0x0992640#26 ∧
    encode .tick = 0x1000000#26 ∧ encode (.done 1#8) = 0x2000001#26 ∧ encode .reset = 0x3000000#26 := by decide

/-! ### Addressing and wire words (section 2.1 of the vectors) -/

theorem test_resolve :
    resolve tc .vcoAPitch = ⟨0, 0, .gain1x⟩ ∧ resolve tc .vcoBPitch = ⟨0, 1, .gain1x⟩ ∧
    resolve tc .vcaLevel = ⟨1, 0, .gain1x⟩ ∧ resolve tc .vcfCutoff = ⟨1, 1, .gain1x⟩ := by decide

theorem test_ctrl :
    ctrlNibble tc.ctrl 0 .gain1x = 0x3#4 ∧ ctrlNibble tc.ctrl 1 .gain1x = 0xB#4 ∧
    ctrlNibble tc.ctrl 0 .gain2x = 0x1#4 ∧ ctrlNibble tc.ctrl 1 .gain2x = 0x9#4 := by decide

theorem test_wireWord :
    wireWord tc 0 0 .gain1x = 0x3000#16 ∧ wireWord tc 4095 0 .gain1x = 0x3FFF#16 ∧
    wireWord tc 4096 0 .gain1x = 0x3FFF#16 ∧ wireWord tc 100000 1 .gain1x = 0xBFFF#16 ∧
    wireWord tc (-1) 1 .gain1x = 0xB000#16 ∧ wireWord tc (-3) 0 .gain2x = 0x1000#16 ∧
    wireWord tc 1000 1 .gain2x = 0x93E8#16 := by decide

/-- Rule R46: the byte with the control nibble goes first. -/
theorem test_wireBytes : wireBytes 0x93E8#16 = [0x93#8, 0xE8#8] := by decide

/-- W1 of the vectors. -/
theorem test_noteTable :
    ([0, 35, 36, 60, 71, 72, 127, 200].map fun n => lookupNote tc.tableA (BitVec.ofNat 8 n)) =
      [0, 0, 100, 2500, 3600, 0, 0, 0] ∧
    ([36, 60, 71].map fun n => lookupNote tc.tableB (BitVec.ofNat 8 n)) = [105, 2505, 3605] := by decide

/-! ### Helpers of the envelopes (section 2.3) -/

theorem test_stepBudget : [10, 20, 1, 128, 1 / 2, 21 / 2].map (stepBudget tc) = [10, 20, 1, 128, 1, 10] := by
  decide +kernel

theorem test_velocityFactor :
    velocityFactor 0 5#8 = 1 ∧ velocityFactor 1 0#8 = 0 ∧ velocityFactor 1 64#8 = 64 / 127 ∧
    velocityFactor (64 / 127) 0#8 = 63 / 127 ∧ velocityFactor 1 200#8 = 1 := by decide +kernel

theorem test_codes :
    [1 / 10, 1 / 2, 1, 11 / 10].map (vcaCode tc) = [409, 2047, 4095, 4504] ∧
    vcfCode 0 (5632 / 5) = 1126 ∧ vcfCode 630 1024 = 1654 ∧ vcfCode (-640) 0 = -640 := by decide +kernel

/-! ### The transport gate (section 2.2) -/

/-- The gate and the trace of a state. -/
def gateOf (s : State) : Bool × Option Nat × Nat × List OutEvent := (s.busy, s.bankSel, s.overlapFaults, s.trace)

/-- The reset state with the gate as given. -/
def gated (busy : Bool) (sel : Option Nat) (faults : Nat) : State :=
  { State.reset with busy := busy, bankSel := sel, overlapFaults := faults }

theorem test_write :
    [write 0 0x3064#16 (gated false none 0), write 1 0x3000#16 (gated true (some 0) 0),
      write 1 0x3000#16 (gated true (some 0) 4294967295)].map gateOf =
    [(true, some 0, 0, [.transmit 0 0x3064#16]), (true, some 0, 1, []), (true, some 0, 4294967295, [])] := by
  decide +kernel

theorem test_emit :
    [emit .vcaLevel 409 (gated false none 0), emit .vcfCutoff (-5) (gated false none 0)].map gateOf =
    [(true, some 1, 0, [.transmit 1 0x3199#16]), (true, some 1, 0, [.transmit 1 0xB000#16])] := by decide +kernel

theorem test_done_other_bank :
    (nextOf (exec (.done 1#8) (gated true (some 0) 0))).map gateOf = some (false, none, 0, []) := by decide +kernel
theorem test_done_spurious :
    (nextOf (exec (.done 0#8) (gated false none 0))).map gateOf = some (false, none, 0, []) := by decide +kernel

/-! ### Note messages (section 2.4) -/

theorem test_noteOn :
    (nextOf (exec (.noteOn 0#4 60#8 127#8) State.reset)).map (fun t => (t.midi, t.vca, t.vcf)) =
      some (⟨60#8, 127#8⟩, ⟨.attack, 0, 1, 1 / 10⟩, ⟨.attack, 1024, 2048, 512 / 5, 0, 10, 0⟩) := by decide +kernel

/-- Velocity sensitivity 1 on both domains and full tracking: note 72, velocity 64. -/
theorem test_noteOn_velocity :
    (nextOf (exec (.noteOn 0#4 72#8 64#8) { State.reset with
      cfgVca := { State.reset.cfgVca with velocitySensitivity := 1 }
      cfgVcf := { State.reset.cfgVcf with velocitySensitivity := 1, keyboardTrackingAmount := 1 } })).map
        (fun t => (t.vca, t.vcf)) =
      some (⟨.attack, 0, 64 / 127, 32 / 635⟩, ⟨.attack, 1024, 131072 / 127, 512 / 635, 0, 10, 80⟩) := by
  decide +kernel

/-- Both envelopes on their plateaus. -/
def plateau : State :=
  { State.reset with vca := ⟨.decay, 1 / 2, 1 / 2, -1 / 40⟩, vcf := ⟨.decay, 1536, 1536, -128 / 5, 20, 20, 0⟩ }

theorem test_noteOff :
    (nextOf (exec (.noteOff 9#4 17#8 0#8) plateau)).map (fun t => (t.vca, t.vcf)) =
      some (⟨.release, 1 / 2, 0, -1 / 20⟩, ⟨.release, 1536, 1024, -256 / 5, 0, 10, 0⟩) := by decide +kernel

theorem test_noteOnVel0Off :
    (nextOf (exec (.noteOnVel0Off 0#4 60#8) plateau)).map (fun t => (t.midi, t.vca, t.vcf)) =
      some (⟨0#8, 0#8⟩, ⟨.release, 1 / 2, 0, -1 / 20⟩, ⟨.release, 1536, 1024, -256 / 5, 0, 10, 0⟩) := by
  decide +kernel

/-- W7: velocity 0 still arms. -/
theorem test_drumNoteOn :
    (nextOf (exec (.drumNoteOn 9#4 42#8 0#8) State.reset)).map (fun t => (t.drumCount, t.trig, t.trace)) =
      some ([0, 0, 20, 0], [.idleLvl, .idleLvl, .activeLvl, .idleLvl], [.setTrigger 2 .activeLvl]) := by decide +kernel
theorem test_drumNoteOn_unmapped :
    nextOf (exec (.drumNoteOn 9#4 37#8 100#8) State.reset) = some State.reset := by decide +kernel

theorem test_ignored : nextOf (exec (.ignored 15#4 8#4 0#8 0#8) plateau) = some plateau := by decide +kernel

/-! ### Control changes (section 2.7) -/

theorem test_controlChange_unmapped :
    nextOf (exec (.controlChange 0#4 1#8 64#8) plateau) = some plateau := by decide +kernel

/-- The configuration of the VCA after an instruction on the reset state. -/
def vcaCfg (i : Instr) : Option EnvConfig := (nextOf (exec i State.reset)).map fun t => t.cfgVca

/-- The configuration of the VCF after an instruction on the reset state. -/
def vcfCfg (i : Instr) : Option VcfConfig := (nextOf (exec i State.reset)).map fun t => t.cfgVcf

/-- The global parameters after an instruction on the reset state. -/
def globOf (i : Instr) : Option GlobalParams := (nextOf (exec i State.reset)).map fun t => t.glob

/-- The auxiliary parameters after an instruction on the reset state. -/
def auxOf (i : Instr) : Option AuxParams := (nextOf (exec i State.reset)).map fun t => t.aux

theorem test_ccVcaAttack : vcaCfg (.ccVcaAttack 0#4 20#8 0#8) = some ⟨1, 20, 10, 1 / 2, 0⟩ := by decide +kernel
theorem test_ccVcaDecay : vcaCfg (.ccVcaDecay 0#4 21#8 127#8) = some ⟨10, 128, 10, 1 / 2, 0⟩ := by decide +kernel
theorem test_ccVcaSustain : vcaCfg (.ccVcaSustain 0#4 22#8 64#8) = some ⟨10, 20, 10, 64 / 127, 0⟩ := by decide +kernel
theorem test_ccVcaRelease : vcaCfg (.ccVcaRelease 0#4 23#8 4#8) = some ⟨10, 20, 5, 1 / 2, 0⟩ := by decide +kernel
theorem test_ccVcaVelSens : vcaCfg (.ccVcaVelSens 0#4 28#8 127#8) = some ⟨10, 20, 10, 1 / 2, 1⟩ := by decide +kernel
theorem test_ccVcfAttack : vcfCfg (.ccVcfAttack 0#4 24#8 0#8) = some ⟨⟨1, 20, 10, 1 / 2, 0⟩, 0, 2048⟩ := by
  decide +kernel
theorem test_ccVcfDecay : vcfCfg (.ccVcfDecay 0#4 25#8 255#8) = some ⟨⟨10, 128, 10, 1 / 2, 0⟩, 0, 2048⟩ := by
  decide +kernel
theorem test_ccVcfSustain : vcfCfg (.ccVcfSustain 0#4 26#8 0#8) = some ⟨⟨10, 20, 10, 0, 0⟩, 0, 2048⟩ := by
  decide +kernel
theorem test_ccVcfRelease : vcfCfg (.ccVcfRelease 0#4 27#8 4#8) = some ⟨⟨10, 20, 5, 1 / 2, 0⟩, 0, 2048⟩ := by
  decide +kernel
theorem test_ccVcfVelSens : vcfCfg (.ccVcfVelSens 0#4 29#8 64#8) = some ⟨⟨10, 20, 10, 1 / 2, 64 / 127⟩, 0, 2048⟩ := by
  decide +kernel
theorem test_ccKbdTracking : vcfCfg (.ccKbdTracking 0#4 30#8 127#8) = some ⟨⟨10, 20, 10, 1 / 2, 0⟩, 1, 2048⟩ := by
  decide +kernel
theorem test_ccEnvAmount : vcfCfg (.ccEnvAmount 3#4 31#8 200#8) = some ⟨⟨10, 20, 10, 1 / 2, 0⟩, 0, 4064⟩ := by
  decide +kernel
theorem test_ccCutoff : globOf (.ccCutoff 15#4 74#8 64#8) = some ⟨2048, 0⟩ := by decide +kernel
theorem test_ccResonance : globOf (.ccResonance 0#4 71#8 32#8) = some ⟨1024, 1024⟩ := by decide +kernel
theorem test_ccWaveform : auxOf (.ccWaveform 0#4 102#8 3#8) = some ⟨3, 0, 0, 0, 0⟩ := by decide +kernel
theorem test_ccOctave : auxOf (.ccOctave 0#4 103#8 3#8) = some ⟨0, 3, 0, 0, 0⟩ := by decide +kernel
theorem test_ccDetune : auxOf (.ccDetune 0#4 104#8 3#8) = some ⟨0, 0, 3, 0, 0⟩ := by decide +kernel
theorem test_ccSync : auxOf (.ccSync 0#4 105#8 3#8) = some ⟨0, 0, 0, 3, 0⟩ := by decide +kernel
theorem test_ccFilterOrder : auxOf (.ccFilterOrder 0#4 106#8 128#8) = some ⟨0, 0, 0, 0, 127⟩ := by decide +kernel

/-- A control change by its number reaches the register of the parameter: `BF 4A 20` gives cutoff 1024·32/32. -/
theorem test_controlChange_mapped : globOf (.controlChange 15#4 74#8 32#8) = some ⟨1024, 0⟩ := by decide +kernel

/-! ### The envelope steps (sections 2.5 and 2.6) -/

/-- One VCA step on the reset state with the given runtime: the runtime after, and what was sent. -/
def vcaRow (r : VcaRuntime) : VcaRuntime × List OutEvent :=
  let t := vcaStep { State.reset with vca := r }
  (t.vca, t.trace)

/-- One VCF step, likewise. -/
def vcfRow (r : VcfRuntime) : VcfRuntime × List OutEvent :=
  let t := vcfStep { State.reset with vcf := r }
  (t.vcf, t.trace)

/-- TA1, TA2, TA4, TA5. -/
theorem test_vca_attack :
    vcaRow ⟨.attack, 0, 1, 1 / 10⟩ = (⟨.attack, 1 / 10, 1, 1 / 10⟩, [.transmit 1 0x3000#16]) ∧
    vcaRow ⟨.attack, 9 / 10, 1, 1 / 10⟩ = (⟨.decay, 1, 1 / 2, -1 / 40⟩, [.transmit 1 0x3E65#16]) ∧
    vcaRow ⟨.attack, 11 / 10, 1, 1 / 10⟩ = (⟨.decay, 6 / 5, 1 / 2, -7 / 200⟩, [.transmit 1 0x3FFF#16]) ∧
    vcaRow ⟨.attack, 0, 0, 0⟩ = (⟨.decay, 0, 0, 0⟩, [.transmit 1 0x3000#16]) := by decide +kernel

/-- TD1, TD2, TD3. -/
theorem test_vca_decay :
    vcaRow ⟨.decay, 1, 1 / 2, -1 / 40⟩ = (⟨.decay, 39 / 40, 1 / 2, -1 / 40⟩, [.transmit 1 0x3F98#16]) ∧
    vcaRow ⟨.decay, 1 / 2, 1 / 2, -1 / 40⟩ = (⟨.decay, 1 / 2, 1 / 2, -1 / 40⟩, []) ∧
    vcaRow ⟨.decay, 51 / 100, 1 / 2, -3 / 100⟩ = (⟨.decay, 1 / 2, 1 / 2, -3 / 100⟩, [.transmit 1 0x37FF#16]) := by
  decide +kernel

/-- TR1 to TR4, TI1. -/
theorem test_vca_release :
    vcaRow ⟨.release, 1 / 2, 0, -1 / 20⟩ = (⟨.release, 9 / 20, 0, -1 / 20⟩, [.transmit 1 0x3732#16]) ∧
    vcaRow ⟨.release, 1 / 20, 0, -1 / 20⟩ = (⟨.idle, 0, 0, -1 / 20⟩, [.transmit 1 0x3000#16]) ∧
    vcaRow ⟨.release, 1 / 30, 0, -1 / 20⟩ = (⟨.idle, 0, 0, -1 / 20⟩, [.transmit 1 0x3000#16]) ∧
    vcaRow ⟨.release, 0, 0, 0⟩ = (⟨.idle, 0, 0, 0⟩, []) ∧
    vcaRow ⟨.idle, 0, 0, 0⟩ = (⟨.idle, 0, 0, 0⟩, []) := by decide +kernel

/-- FA1 to FA4, N1. -/
theorem test_vcf_attack :
    vcfRow ⟨.attack, 1024, 2048, 512 / 5, 0, 10, 0⟩ =
      (⟨.attack, 5632 / 5, 2048, 512 / 5, 1, 10, 0⟩, [.transmit 1 0xB400#16]) ∧
    vcfRow ⟨.attack, 9728 / 5, 2048, 512 / 5, 9, 10, 0⟩ =
      (⟨.decay, 2048, 1536, -128 / 5, 0, 20, 0⟩, [.transmit 1 0xB799#16]) ∧
    vcfRow ⟨.attack, 1024, 2048, 512 / 5, 0, 10, 80⟩ =
      (⟨.attack, 5632 / 5, 2048, 512 / 5, 1, 10, 80⟩, [.transmit 1 0xB450#16]) ∧
    vcfRow ⟨.attack, 12288 / 5, 2048, 512 / 5, 9, 10, 0⟩ =
      (⟨.decay, 2560, 1536, -256 / 5, 0, 20, 0⟩, [.transmit 1 0xB999#16]) ∧
    vcfRow ⟨.attack, 0, 0, 0, 0, 10, -640⟩ = (⟨.attack, 0, 0, 0, 1, 10, -640⟩, [.transmit 1 0xB000#16]) := by
  decide +kernel

/-- FD1 to FD4. -/
theorem test_vcf_decay :
    vcfRow ⟨.decay, 2048, 1536, -128 / 5, 0, 20, 0⟩ =
      (⟨.decay, 10112 / 5, 1536, -128 / 5, 1, 20, 0⟩, [.transmit 1 0xB7E6#16]) ∧
    vcfRow ⟨.decay, 7808 / 5, 1536, -128 / 5, 19, 20, 0⟩ =
      (⟨.decay, 1536, 1536, -128 / 5, 20, 20, 0⟩, [.transmit 1 0xB600#16]) ∧
    vcfRow ⟨.decay, 1536, 1536, -128 / 5, 20, 20, 0⟩ = (⟨.decay, 1536, 1536, -128 / 5, 20, 20, 0⟩, []) ∧
    vcfRow ⟨.decay, 2048, 2048, 0, 0, 20, 0⟩ = (⟨.decay, 2048, 2048, 0, 1, 20, 0⟩, [.transmit 1 0xB800#16]) := by
  decide +kernel

/-- FR1 to FR4, FI1. -/
theorem test_vcf_release :
    vcfRow ⟨.release, 1536, 1024, -256 / 5, 0, 10, 0⟩ =
      (⟨.release, 7424 / 5, 1024, -256 / 5, 1, 10, 0⟩, [.transmit 1 0xB5CC#16]) ∧
    vcfRow ⟨.release, 5376 / 5, 1024, -256 / 5, 9, 10, 0⟩ =
      (⟨.idle, 1024, 1024, -256 / 5, 10, 10, 0⟩, [.transmit 1 0xB400#16]) ∧
    vcfRow ⟨.release, 1024, 1024, 0, 0, 10, 0⟩ = (⟨.release, 1024, 1024, 0, 1, 10, 0⟩, [.transmit 1 0xB400#16]) ∧
    vcfRow ⟨.release, 1100, 1024, 1, 10, 10, 0⟩ = (⟨.idle, 1100, 1024, 1, 10, 10, 0⟩, []) ∧
    vcfRow ⟨.idle, 1024, 1024, 0, 0, 1, 0⟩ = (⟨.idle, 1024, 1024, 0, 0, 1, 0⟩, []) := by decide +kernel

/-! ### TICK and RESET (sections 2.8 and 2.9) -/

/-- Drums first, in ascending voice order, then the pitch. -/
theorem test_tick_order :
    (nextOf (exec .tick { State.reset with
      drumCount := [1, 1, 5, 0], trig := [.activeLvl, .activeLvl, .activeLvl, .idleLvl], midi := ⟨60#8, 127#8⟩ })).map
        (fun t => (t.p, t.drumCount, t.trig, t.trace)) =
      some (1, [0, 0, 4, 0], [.idleLvl, .idleLvl, .activeLvl, .idleLvl],
        [.setTrigger 0 .idleLvl, .setTrigger 1 .idleLvl, .transmit 0 0x39C4#16]) := by decide +kernel

/-- The phase wraps at K. -/
theorem test_tick_wrap : (nextOf (exec .tick { State.reset with p := 19 })).map (fun t => (t.p, t.trace)) =
    some (0, []) := by decide +kernel

/-- A state with every field of the record away from reset. -/
def dirty : State :=
  { plateau with
    cfgVca := ⟨1, 2, 3, 1, 1⟩, cfgVcf := ⟨⟨1, 2, 3, 1, 1⟩, 1, 1⟩, glob := ⟨1, 1⟩, aux := ⟨1, 1, 1, 1, 1⟩
    midi := ⟨60#8, 1#8⟩, drumCount := [1, 2, 3, 4], trig := [.activeLvl, .activeLvl, .activeLvl, .activeLvl]
    p := 7, busy := true, bankSel := some 1, overlapFaults := 3, trace := [.transmit 1 0x3000#16] }

theorem test_reset : nextOf (exec .reset dirty) = some { State.reset with trace := [.transmit 1 0x3000#16] } := by
  decide +kernel

/-! ### Construction, the step and the script -/

theorem test_defect_order :
    defect tc = none ∧
    defect { tc with resetConfig := { tc.resetConfig with cfgVca := ⟨0, 20, 10, 1 / 2, 0⟩ }, k := 3 } = some .zeroTime ∧
    defect { tc with addrMap := [], tableA := [] } = some .addrMap ∧
    defect { tc with nBanks := 1 } = some .addrMap ∧
    defect { tc with tableB := noteTable fun n => 4200 - n } = some .table ∧
    defect { tc with k := 3 } = some .param ∧
    [Defect.zeroTime, .addrMap, .table, .param].map defectCode = [16, 17, 18, 19] := by decide +kernel

/-- `step` takes the word that `withFetchWord` puts first and runs it. -/
theorem test_step_fetch :
    nextOf (step (State.reset.withFetchWord 32 0x0903C7F)) = nextOf (exec (.noteOn 0#4 60#8 127#8) State.reset) := by
  decide +kernel

/-- The read of a script's text, a comment and a blank line among it. -/
theorem test_readScript :
    readScript "RESET ; boot\n\nNOTEON 0 3C 7F\nDONE 1\nCYCLES 40\nMIDI B0 4a 20".toList =
      some [.reset, .noteOn 0#4 0x3C#8 0x7F#8, .done 1#8, .cycles 40, .midi 0xB0#8 0x4A#8 0x20#8] := by decide +kernel

/-- Section 2.2 in script form: the completion of another bank frees the transfer. -/
theorem test_script_gate :
    (nextOf (runScript [.tick, .done 1#8, .done 1#8, .tick] State.reset)).map gateOf =
      some (true, some 0, 0, [.transmit 0 0x3000#16, .transmit 0 0xB000#16]) := by decide +kernel

/-! ### Witnesses: states and operands that meet the hypotheses of the statements -/

theorem exists_next {r : Result} (h : (nextOf r).isSome = true) : ∃ t, r = .next t := by
  cases r with
  | next t => exact ⟨t, rfl⟩
  | fault x => cases h
  | refused x => cases h

/-- The reset state with the phase and the VCA runtime as given. -/
def vcaAt (p : Nat) (r : VcaRuntime) : State := { State.reset with p := p, vca := r }

/-- The reset state with the phase and the VCF runtime as given. -/
def vcfAt (p : Nat) (r : VcfRuntime) : State := { State.reset with p := p, vcf := r }

/-- The reset state with the phase, the inbox and the drums as given. -/
def drumsAt (p : Nat) (inbox : List EventWord) (counts : List Nat) (lines : List TrigLevel) : State :=
  { State.reset with p := p, inbox := inbox, drumCount := counts, trig := lines }

theorem test_witness_DecodeOfEncodeIsTheInstruction :
    ([.drumNoteOn 9#4 0#8 0#8, .noteOn 15#4 127#8 0#8, .noteOff 9#4 0#8 0#8, .controlChange 0#4 127#8 1#8,
      .ignored 15#4 15#4 255#8 255#8, .ignored 10#4 0#4 0#8 0#8, .tick, .done 255#8, .reset] : List Instr).all
        (Instr.wellFormed tc) = true ∧
    (tc.ccMap.all fun e => (ccInstr e.2 15#4 e.1 255#8).wellFormed tc) = true ∧
    (Instr.noteOnVel0Off 0#4 255#8).wellFormed tcVel0 = true ∧ (Instr.noteOn 0#4 0#8 1#8).wellFormed tcVel0 = true := by
  decide

theorem test_witness_EncodeOfDecodedMessageIsTheWord : eventTag 0x0FFFFFF#26 = 0#2 ∧ eventTag 0#26 = 0#2 := by decide

theorem test_witness_StepRunsTheDecodedInstruction :
    defect (State.reset.withFetchWord 26 0x1000000).params = none ∧
    (State.reset.withFetchWord 26 0x1000000).inbox = tickWord :: [] := by decide +kernel

theorem test_witness_StepStopsOnlyWithoutABlock :
    defect State.reset.params = none ∧ State.reset.inbox = [] ∧
    defect { tc with drumPulse := 0 } = some .param := by decide +kernel

theorem test_witness_DrumNoteOnArmsItsVoice :
    State.reset.params.drumNoteMap.lookup 37#8 = none ∧ State.reset.params.drumNoteMap.lookup 36#8 = some 0 ∧
    State.reset.params.drumNoteMap.lookup 46#8 = some 3 := by decide

theorem test_witness_ControlChangeActsAsItsParameter :
    State.reset.params.ccMap.lookup 107#8 = none ∧
    State.reset.params.ccMap.lookup 106#8 = some .filterOrder := by decide

theorem test_witness_ControlChangeLeavesRampsAlone :
    isControlChange (.ccCutoff 0#4 74#8 64#8) = true ∧
    exec (.ccCutoff 0#4 74#8 64#8) plateau = .next (writeParam .cutoff 64#8 plateau) := ⟨rfl, rfl⟩

theorem test_witness_ControlChangeIsIdempotent :
    isControlChange (.ccVcaAttack 0#4 20#8 255#8) = true ∧
    exec (.ccVcaAttack 0#4 20#8 255#8) plateau = .next (writeParam .vcaAttack 255#8 plateau) := ⟨rfl, rfl⟩

theorem test_witness_DoneFreesTheGateWhateverTheBank :
    (gated true (some 0) 0).busy = true ∧ (gated false none 0).busy = false := ⟨rfl, rfl⟩

theorem test_witness_TickAdvancesThePhaseAndKeepsTheRest :
    (vcaAt 3 ⟨.idle, 0, 0, 0⟩).p ≠ 2 ∧ (vcaAt 2 ⟨.idle, 0, 0, 0⟩).p ≠ 3 := by decide

theorem test_witness_TickCountsTheDrumsDown :
    let s := drumsAt 0 [] [0, 1, 2, 20] [.idleLvl, .activeLvl, .activeLvl, .activeLvl]
    s.trig.length = s.drumCount.length ∧ s.drumCount.length = s.params.nDrum ∧ s.drumCount[0]? = some 0 ∧
    s.drumCount[1]? = some 1 ∧ s.drumCount[2]? = some 2 ∧ s.drumCount[3]? = some s.params.drumPulse := by decide

theorem test_witness_PitchPhasesSendTheTableCode :
    State.reset.p = 0 ∧ (vcaAt 1 ⟨.idle, 0, 0, 0⟩).p = 1 := by decide

theorem test_witness_IdlePhasesSendNothing :
    4 ≤ (vcaAt 4 ⟨.idle, 0, 0, 0⟩).p ∧ 4 ≤ (vcaAt 19 ⟨.idle, 0, 0, 0⟩).p := by decide

theorem test_witness_RestingEnvelopeSendsNothing :
    (vcaAt 2 ⟨.idle, 0, 0, 0⟩).vca.state = .idle ∧
    (let s := vcaAt 2 ⟨.decay, 1 / 2, 1 / 2, -1 / 40⟩
     s.p = 2 ∧ s.vca.state = .decay ∧ s.vca.currentLevel ≤ s.vca.targetLevel) ∧
    (vcfAt 3 ⟨.idle, 1024, 1024, 0, 0, 1, 0⟩).vcf.state = .idle ∧
    (let s := vcfAt 3 ⟨.decay, 1536, 1536, -128 / 5, 20, 20, 0⟩
     s.p = 3 ∧ s.vcf.state = .decay ∧ s.vcf.ticksToTarget ≤ s.vcf.elapsedTicks) := by decide +kernel

theorem test_witness_VcaAttackStepEmitsThenAdds :
    (let s := vcaAt 2 ⟨.attack, 9 / 10, 1, 1 / 10⟩
     s.p = 2 ∧ s.vca.state = .attack ∧ s.vca.targetLevel ≤ s.vca.currentLevel + s.vca.perTickDelta) ∧
    (let s := vcaAt 2 ⟨.attack, 4 / 5, 1, 1 / 10⟩
     s.p = 2 ∧ s.vca.state = .attack ∧ s.vca.currentLevel + s.vca.perTickDelta < s.vca.targetLevel) := by
  decide +kernel

theorem test_witness_VcaDecayStepAddsThenEmits :
    let s := vcaAt 2 ⟨.decay, 51 / 100, 1 / 2, -3 / 100⟩
    s.p = 2 ∧ s.vca.state = .decay ∧ s.vca.targetLevel < s.vca.currentLevel := by decide +kernel

theorem test_witness_VcaReleaseStepEndsAtZero :
    (let s := vcaAt 2 ⟨.release, 0, 0, 0⟩
     s.p = 2 ∧ s.vca.state = .release ∧ s.vca.currentLevel ≤ 0) ∧
    (let s := vcaAt 2 ⟨.release, 1 / 20, 0, -1 / 20⟩
     s.p = 2 ∧ s.vca.state = .release ∧ 0 < s.vca.currentLevel ∧ s.vca.currentLevel + s.vca.perTickDelta ≤ 0) ∧
    (let s := vcaAt 2 ⟨.release, 1 / 10, 0, -1 / 20⟩
     s.p = 2 ∧ s.vca.state = .release ∧ 0 < s.vca.currentLevel ∧ 0 < s.vca.currentLevel + s.vca.perTickDelta) := by
  decide +kernel

theorem test_witness_VcfAttackStepEmitsThenAdds :
    (let s := vcfAt 3 ⟨.attack, 1024, 2048, 512 / 5, 9, 10, 0⟩
     s.p = 3 ∧ s.vcf.state = .attack ∧ s.vcf.ticksToTarget ≤ s.vcf.elapsedTicks + 1) ∧
    (let s := vcfAt 3 ⟨.attack, 1024, 2048, 512 / 5, 8, 10, 0⟩
     s.p = 3 ∧ s.vcf.state = .attack ∧ s.vcf.elapsedTicks + 1 < s.vcf.ticksToTarget) := by decide

theorem test_witness_VcfDecayStepAddsThenEmits :
    ∀ e ∈ [0, 18, 19], let s := vcfAt 3 ⟨.decay, 2048, 1536, -128 / 5, e, 20, 0⟩
      s.p = 3 ∧ s.vcf.state = .decay ∧ s.vcf.elapsedTicks < s.vcf.ticksToTarget := by decide

theorem test_witness_VcfReleaseStepEndsAtTheTarget :
    (let s := vcfAt 3 ⟨.release, 1100, 1024, -1, 10, 10, 0⟩
     s.p = 3 ∧ s.vcf.state = .release ∧ s.vcf.ticksToTarget ≤ s.vcf.elapsedTicks) ∧
    (let s := vcfAt 3 ⟨.release, 1100, 1024, -1, 9, 10, 0⟩
     s.p = 3 ∧ s.vcf.state = .release ∧ s.vcf.elapsedTicks + 1 = s.vcf.ticksToTarget) ∧
    (let s := vcfAt 3 ⟨.release, 1100, 1024, -1, 8, 10, 0⟩
     s.p = 3 ∧ s.vcf.state = .release ∧ s.vcf.elapsedTicks + 1 < s.vcf.ticksToTarget) := by decide

theorem test_witness_NoEventWritesTheParameters : exec .tick plateau = .next (tick plateau) := rfl

theorem test_witness_OnlyTickAndResetWriteThePhase :
    exec .tick plateau = .next (tick plateau) ∧ (tick plateau).p ≠ plateau.p := ⟨rfl, by decide +kernel⟩

theorem test_witness_OnlyNoteOnAndResetWriteTheNote :
    exec (.noteOn 0#4 60#8 127#8) plateau = .next (noteOn 60#8 127#8 plateau) ∧
    (noteOn 60#8 127#8 plateau).midi ≠ plateau.midi := ⟨rfl, by decide +kernel⟩

theorem test_witness_OnlyDoneAndResetFreeTheGate :
    let s := gated true (some 0) 0
    exec (.done 1#8) s = .next (transferDone 1#8 s) ∧ s.busy = true ∧ (transferDone 1#8 s).busy = false :=
  ⟨rfl, rfl, rfl⟩

/-- The counter at its largest value, and one below. -/
theorem test_witness_FaultCounterIsSticky :
    ∀ n ∈ [4294967294, 4294967295], let s := gated true (some 0) n
      (Instr.tick ≠ .reset ∧ s.overlapFaults ≤ 2 ^ s.params.faultCtrWidth - 1) ∧
      (tick s).overlapFaults = 4294967295 := by decide +kernel

/-- One witness for each transition: the two triggers, and the two transitions of each envelope's step. -/
theorem test_witness_EnvelopesMoveOnlyAsTheTransitionTableSays :
    isNoteOn (.noteOn 0#4 60#8 127#8) = true ∧ isNoteOff (.noteOff 0#4 60#8 0#8) = true ∧
    isNoteOff (.noteOnVel0Off 0#4 60#8) = true ∧ isNoteOn .tick = false ∧ isNoteOff .tick = false ∧
    (tick (vcaAt 2 ⟨.attack, 9 / 10, 1, 1 / 10⟩)).vca.state = .decay ∧
    (tick (vcaAt 2 ⟨.release, 1 / 20, 0, -1 / 20⟩)).vca.state = .idle ∧
    (tick (vcfAt 3 ⟨.attack, 1024, 2048, 512 / 5, 9, 10, 0⟩)).vcf.state = .decay ∧
    (tick (vcfAt 3 ⟨.release, 1100, 1024, -1, 9, 10, 0⟩)).vcf.state = .idle := by decide +kernel

theorem test_witness_TransmitOnlyThroughAFreeGate :
    exec .tick State.reset = .next (tick State.reset) ∧
    (tick State.reset).trace = [.transmit 0 0x3000#16] := ⟨rfl, by decide +kernel⟩

theorem test_witness_UnreadRegistersReachNothing :
    let s' := { plateau with aux := ⟨1, 2, 3, 4, 5⟩, glob := { plateau.glob with vcfResonance := 7 } }
    eraseUnread plateau = eraseUnread s' ∧ plateau ≠ s' ∧
    exec .tick plateau = .next (tick plateau) ∧ exec .tick s' = .next (tick s') :=
  ⟨by decide +kernel, by decide +kernel, rfl, rfl⟩

/-- A state away from reset, a tick to come, that meets every part of the invariant. -/
def sound : State :=
  { drumsAt 3 [tickWord] [1, 0, 20, 0] [.activeLvl, .idleLvl, .activeLvl, .idleLvl] with
    vca := ⟨.attack, 1 / 2, 1, 1 / 10⟩, vcf := ⟨.attack, 1024, 2048, 512 / 5, 9, 10, 0⟩
    busy := true, bankSel := some 1, overlapFaults := 2, trace := [.transmit 1 0x3000#16, .setTrigger 3 .idleLvl] }

theorem test_sound_inv : Inv sound where
  built := by decide +kernel
  config := by
    refine ⟨⟨?_, ?_, ?_, ?_, ?_⟩, ⟨?_, ?_, ?_, ?_, ?_⟩, ?_, ?_, ?_, ?_, ?_⟩ <;> decide +kernel
  drums := by refine ⟨?_, ?_, ?_, ?_⟩ <;> decide +kernel
  gate := by
    refine ⟨by decide +kernel, fun b h => ?_, by decide +kernel⟩
    cases h
    decide +kernel
  envelopes := by refine ⟨?_, ?_, ?_, ?_, ?_, ?_⟩ <;> decide +kernel
  phase := by decide +kernel
  traceOk := by
    intro e he
    simp only [sound, List.mem_cons, List.not_mem_nil, or_false] at he
    rcases he with rfl | rfl
    · exact (by decide : 1 < 2)
    · exact (by decide : 3 < 4)

theorem test_witness_StepKeepsTheInvariant : Inv sound ∧ ∃ t, step sound = .next t :=
  ⟨test_sound_inv, exists_next (by decide +kernel)⟩

theorem test_witness_ConstructionMeetsTheInvariant : construct tc = .ok State.reset := by
  have h : defect tc = none := by decide +kernel
  simp only [construct, h, State.reset]

/-- TC with every scalar and level at the edge of its constraint, a pair that an earlier pair of its note hides, and a
mapped mixer input: a set that construction builds a block from. -/
def edge : Params :=
  { tc with
    tUs := 1 / 1000, k := 4, maxTime := 1 / 1000, maxEnvAmount := 2048, maxCutoff := 1024, maxResonance := 0
    maxTrackingRange := -1, vcaFullScale := 1, drumChannel := 15, drumPulse := 1, faultCtrWidth := 1
    drumNoteMap := tc.drumNoteMap ++ [(36#8, 99)], addrMap := tc.addrMap ++ [(.mixerInput 0, ⟨1, 1, .gain2x⟩)] }

theorem resetTimesSound_of {p : Params} (h : p.resetConfig = edge.resetConfig) : ResetTimesSound p := by
  constructor <;> rw [h] <;> decide +kernel

theorem addrMapSound_of {p : Params} (h : p.addrMap = edge.addrMap) (hn : p.nBanks = 2) : AddrMapSound p where
  total := by
    intro o ho
    simp only [List.mem_cons, List.not_mem_nil, or_false] at ho
    rw [h]
    rcases ho with rfl | rfl | rfl | rfl <;> exact ⟨_, rfl⟩
  inRange := by
    intro o d ho
    rw [h] at ho
    obtain ⟨l, r, e, -⟩ := List.lookup_eq_some_iff.mp ho
    have hm : (o, d) ∈ edge.addrMap := by simp [e]
    have all : ∀ x ∈ edge.addrMap, x.2.bank < 2 ∧ (x.2.sub = 0 ∨ x.2.sub = 1) := by decide
    exact hn ▸ all _ hm

theorem noteTableSound_tc : NoteTableSound tc.tableA ∧ NoteTableSound tc.tableB := by
  constructor <;> refine ⟨?_, ?_, ?_, fun n h h' => ?_⟩
  · decide +kernel
  · decide +kernel
  · decide +kernel
  · exact (by decide +kernel : ∀ n < 71, 36 ≤ n → memRead tc.tableA n ≤ memRead tc.tableA (n + 1)) n h' h
  · decide +kernel
  · decide +kernel
  · decide +kernel
  · exact (by decide +kernel : ∀ n < 71, 36 ≤ n → memRead tc.tableB n ≤ memRead tc.tableB (n + 1)) n h' h

theorem paramsSound_edge : ParamsSound edge where
  scalars := by constructor <;> decide +kernel
  drumVoices := by
    intro n v h
    have all : ∀ n : Byte, (edge.drumNoteMap.lookup n).all (fun v => decide (v < edge.nDrum)) = true := by
      decide +kernel
    simpa [h] using all n
  levels := by constructor <;> decide +kernel

/-- Construction succeeds for a set at the edge of every constraint. -/
theorem test_witness_ConstructionRejectsDefects_built :
    (ResetTimesSound edge ∧ AddrMapSound edge ∧ NoteTableSound edge.tableA ∧ NoteTableSound edge.tableB ∧
      ParamsSound edge) ∧ construct edge = .ok (resetState edge) := by
  refine ⟨⟨resetTimesSound_of rfl, addrMapSound_of rfl rfl, noteTableSound_tc.1, noteTableSound_tc.2,
    paramsSound_edge⟩, ?_⟩
  have h : defect edge = none := by decide +kernel
  simp only [construct, h]

/-- Each of the six times at 0 breaks the first group. -/
theorem test_witness_ConstructionRejectsDefects_zeroTime :
    ∀ r ∈ [{ edge.resetConfig with cfgVca := { tcEnvConfig with attackTimeMs := 0 } },
        { edge.resetConfig with cfgVca := { tcEnvConfig with decayTimeMs := 0 } },
        { edge.resetConfig with cfgVca := { tcEnvConfig with releaseTimeMs := 0 } },
        { edge.resetConfig with cfgVcf := { edge.resetConfig.cfgVcf with attackTimeMs := 0 } },
        { edge.resetConfig with cfgVcf := { edge.resetConfig.cfgVcf with decayTimeMs := 0 } },
        { edge.resetConfig with cfgVcf := { edge.resetConfig.cfgVcf with releaseTimeMs := 0 } }],
      ¬ ResetTimesSound { edge with resetConfig := r, k := 3 } := by
  intro r hr h
  obtain ⟨h1, h2, h3, h4, h5, h6⟩ := h
  simp only [List.mem_cons, List.not_mem_nil, or_false] at hr
  rcases hr with rfl | rfl | rfl | rfl | rfl | rfl
  · exact lt_irrefl _ h1
  · exact lt_irrefl _ h2
  · exact lt_irrefl _ h3
  · exact lt_irrefl _ h4
  · exact lt_irrefl _ h5
  · exact lt_irrefl _ h6

/-- A bank equal to NBANKS breaks the second group, whatever the later groups say. -/
theorem test_witness_ConstructionRejectsDefects_addrMap :
    let p := { edge with nBanks := 1, tableA := [] }
    ResetTimesSound p ∧ ¬ AddrMapSound p :=
  ⟨resetTimesSound_of rfl, fun h => absurd (h.inRange .vcaLevel ⟨1, 0, .gain1x⟩ rfl).1 (by decide)⟩

/-- A table whose codes fall, and one with a code of 4096, break the third group, whatever the fourth says. -/
theorem test_witness_ConstructionRejectsDefects_table :
    ∀ table ∈ [noteTable fun n => 71 - n, noteTable fun _ => 4096],
      let p := { edge with tableB := table, k := 3 }
      ResetTimesSound p ∧ AddrMapSound p ∧ ¬ (NoteTableSound p.tableA ∧ NoteTableSound p.tableB) := by
  intro table ht
  refine ⟨resetTimesSound_of rfl, addrMapSound_of rfl rfl, fun ⟨_, h⟩ => ?_⟩
  simp only [List.mem_cons, List.not_mem_nil, or_false] at ht
  rcases ht with rfl | rfl
  · exact absurd (h.monotone 36 (by decide) (by decide)) (by decide +kernel)
  · exact absurd (h.entries 4096 (by decide +kernel)) (by decide)

/-- One step beyond the edge of a scalar, a voice or a level breaks the fourth group alone. -/
theorem test_witness_ConstructionRejectsDefects_param :
    ∀ p ∈ [{ edge with k := 3 }, { edge with vcaFullScale := 0 }, { edge with faultCtrWidth := 0 },
        { edge with drumChannel := 16 }, { edge with nDrum := 3 }, { edge with maxCutoff := 1023 }],
      ResetTimesSound p ∧ AddrMapSound p ∧ NoteTableSound p.tableA ∧ NoteTableSound p.tableB ∧ ¬ ParamsSound p := by
  intro p hp
  simp only [List.mem_cons, List.not_mem_nil, or_false] at hp
  rcases hp with rfl | rfl | rfl | rfl | rfl | rfl <;>
    refine ⟨resetTimesSound_of rfl, addrMapSound_of rfl rfl, noteTableSound_tc.1, noteTableSound_tc.2, fun h => ?_⟩
  · exact absurd h.scalars.k (by decide)
  · exact absurd h.scalars.vcaFullScale (by decide)
  · exact absurd h.scalars.faultCtrWidth (by decide)
  · exact absurd h.scalars.drumChannel (by decide)
  · exact absurd (h.drumVoices 46#8 3 rfl) (by decide)
  · exact absurd h.levels.cutoff.2 (by decide +kernel)

theorem test_witness_NoteLookupIsZeroOutsideTheRange :
    tc.tableA ∈ [tc.tableA, tc.tableB] ∧ (35#8).toNat < 36 ∧ 71 < (72#8).toNat ∧ 71 < (255#8).toNat ∧
    36 ≤ (36#8).toNat ∧ (36#8).toNat ≤ (71#8).toNat ∧ (71#8).toNat ≤ 71 := by decide

theorem test_witness_VelocityFactorIsInTheUnitInterval :
    ∀ sens ∈ [0, 1 / 2, (1 : ℚ)], 0 ≤ sens ∧ sens ≤ 1 := by decide +kernel

/-- A re-trigger on the plateau: attack budget 10, and in the decay of 20 steps the first and the last. -/
theorem test_witness_VcfAttackAndDecayTakeTheirBudgets :
    exec (.noteOn 0#4 60#8 127#8) plateau = .next (noteOn 60#8 127#8 plateau) ∧
    max 1 ⌊plateau.cfgVcf.attackTimeMs / tickPeriodMs plateau.params⌋.toNat = 10 ∧
    max 1 ⌊plateau.cfgVcf.decayTimeMs / tickPeriodMs plateau.params⌋.toNat = 20 ∧
    (vcfStep^[11] (noteOn 60#8 127#8 plateau)).vcf.elapsedTicks = 1 ∧
    (vcfStep^[30] (noteOn 60#8 127#8 plateau)).vcf.currentLevel = 1536 := ⟨rfl, by decide +kernel⟩

theorem test_witness_VcfReleaseTakesItsBudget :
    exec (.noteOff 0#4 60#8 0#8) plateau = .next (noteOff plateau) ∧
    0 < max 1 ⌊plateau.cfgVcf.releaseTimeMs / tickPeriodMs plateau.params⌋.toNat := ⟨rfl, by decide +kernel⟩

theorem test_witness_VcaAttackEndsWithinItsTime :
    exec (.noteOn 0#4 60#8 127#8) plateau = .next (noteOn 60#8 127#8 plateau) ∧
    0 < tickPeriodMs plateau.params ∧ 0 < plateau.cfgVca.attackTimeMs ∧ 0 ≤ plateau.vca.currentLevel ∧
    0 ≤ plateau.cfgVca.velocitySensitivity ∧ plateau.cfgVca.velocitySensitivity ≤ 1 := ⟨rfl, by decide +kernel⟩

theorem test_witness_VcaLevelFromRestIsBounded :
    exec (.noteOn 0#4 60#8 127#8) State.reset = .next (noteOn 60#8 127#8 State.reset) ∧
    State.reset.vca.currentLevel = 0 ∧ 0 < tickPeriodMs tc ∧ 0 < tcEnvConfig.attackTimeMs ∧
    0 < tcEnvConfig.decayTimeMs ∧ 0 ≤ tcEnvConfig.velocitySensitivity ∧ tcEnvConfig.velocitySensitivity ≤ 1 ∧
    0 ≤ tcEnvConfig.sustainLevel ∧ tcEnvConfig.sustainLevel ≤ 1 := ⟨rfl, by decide +kernel⟩

/-- From level 1 in 20 steps, and from the target itself in none. -/
theorem test_witness_VcaDecayReachesTheSustainLevel :
    ∀ r ∈ [VcaRuntime.mk .decay 1 (1 / 2) (-1 / 40), VcaRuntime.mk .decay (1 / 2) (1 / 2) 0], let s := vcaAt 2 r
      0 < tickPeriodMs s.params ∧ 0 < s.cfgVca.decayTimeMs ∧ s.vca.state = .decay ∧
      s.vca.targetLevel ≤ s.vca.currentLevel ∧
      s.vca.perTickDelta = (s.vca.targetLevel - s.vca.currentLevel) * tickPeriodMs s.params / s.cfgVca.decayTimeMs ∧
      ⌈s.cfgVca.decayTimeMs / tickPeriodMs s.params⌉ ≤ 20 := by decide +kernel

theorem test_witness_VcaReleaseReachesRest :
    exec (.noteOff 0#4 60#8 0#8) plateau = .next (noteOff plateau) ∧ 0 < tickPeriodMs plateau.params ∧
    0 < plateau.cfgVca.releaseTimeMs ∧ 0 ≤ plateau.vca.currentLevel ∧
    max 1 ⌈plateau.cfgVca.releaseTimeMs / tickPeriodMs plateau.params⌉ ≤ 10 := ⟨rfl, by decide +kernel⟩

theorem test_witness_PhaseReturnsAfterKTicks :
    let s := drumsAt 19 (List.replicate 20 tickWord ++ [resetWord]) [0, 0, 0, 0] State.reset.trig
    defect s.params = none ∧ s.p < s.params.k ∧ s.inbox = List.replicate 20 tickWord ++ [resetWord] ∧
    20 = s.params.k := by decide +kernel

theorem test_witness_KTicksStepEachEnvelopeOnce :
    ∀ p ∈ [0, 2, 3, 4, 19], let s := drumsAt p (List.replicate 20 tickWord ++ []) [0, 0, 0, 0] State.reset.trig
      defect s.params = none ∧ s.p < s.params.k ∧ s.inbox = List.replicate s.params.k tickWord ++ [] := by
  decide +kernel

theorem test_witness_FirstTicksAfterResetSendCodeZero :
    defect dirty.params = none ∧ exec .reset dirty = .next (dirty.setBlock (blockReset dirty.params)) :=
  ⟨by decide +kernel, rfl⟩

/-- The note-on alone, and the note-on with the whole pulse after it. -/
theorem test_witness_DrumPulseLastsExactlyPTicks :
    ∀ n ∈ [0, 19, 20],
      let s := drumsAt 0 (0x0992E00#26 :: (List.replicate n tickWord ++ [])) [0, 0, 0, 0] State.reset.trig
      defect s.params = none ∧ s.drumCount.length = s.params.nDrum ∧ s.trig.length = s.params.nDrum ∧
      decode s.params 0x0992E00#26 = .drumNoteOn 9#4 46#8 0#8 ∧ s.params.drumNoteMap.lookup 46#8 = some 3 ∧
      n ≤ s.params.drumPulse ∧ s.inbox = 0x0992E00#26 :: (List.replicate n tickWord ++ []) := by decide +kernel

/-- A busy gate whose completion stays away for two events. -/
def lost : State := { gated true (some 0) 0 with inbox := [tickWord, 0x0992E00#26, doneWord 0#8] }

theorem test_lost_runs : (nextOf (Host.Core.run Sys2Proof.core 2 lost)).isSome = true := by decide +kernel

theorem test_witness_LostCompletionBlocksTheLink :
    lost.busy = true ∧ (∀ e ∈ lost.inbox.take 2, eventTag e = 0#2 ∨ eventTag e = 1#2) ∧
    ∃ t : State, Host.Core.run Sys2Proof.core 2 lost = .next t := by
  refine ⟨rfl, fun e he => ?_, exists_next test_lost_runs⟩
  simp only [lost, List.take_succ_cons, List.take_zero, List.mem_cons, List.not_mem_nil, or_false] at he
  rcases he with rfl | rfl <;> decide

theorem test_witness_TimelyCompletionNeverOverlaps :
    let ls : List ScriptLine := [.reset, .noteOn 0#4 60#8 127#8, .cycles 3, .cc 0#4 74#8 64#8, .steps 7, .done 1#8]
    defect State.reset.params = none ∧ ls.all timelyLine = true ∧ State.reset.busy = false ∧ noOverlap State.reset :=
  ⟨by decide +kernel, rfl, rfl, rfl⟩

end Sys2Proof.Tests
end

section
/-! Construction and the note tables (rules R41, R43, R44, R123): what the checks of construction give about a table,
and what a lookup in a sound table reads. -/

namespace Sys2Proof.Proofs.Memory
open Sys2Proof Sys2Proof.Machine

/-! ### What a built block has passed -/

theorem construct_eq_ok_iff {p : Params} {s : State} :
    construct p = .ok s ↔ defect p = none ∧ resetState p = s := by
  unfold construct
  cases defect p <;> simp

theorem defect_eq_none_iff {p : Params} :
    defect p = none ↔
      resetTimesOk p = true ∧ addrMapOk p = true ∧ tablesOk p = true ∧ paramsOk p = true := by
  unfold defect
  cases resetTimesOk p <;> cases addrMapOk p <;> cases tablesOk p <;> simp

/-- The check of rule R43 is its statement as a structure; the check counts the entries 36..71 from 0. -/
theorem tableOk_iff {table : List Nat} : tableOk table = true ↔ NoteTableSound table := by
  simp only [tableOk, Bool.and_eq_true, Bool.or_eq_true, List.all_eq_true, decide_eq_true_eq, List.mem_range]
  constructor
  · rintro ⟨⟨⟨hlength, hentries⟩, hzero⟩, hmono⟩
    refine ⟨hlength, hentries, fun n hn hout => (hzero n hn).resolve_left (by omega), fun n hlo hhi => ?_⟩
    have hstep := hmono (n - 36) (by omega)
    rwa [Nat.add_sub_cancel' hlo] at hstep
  · rintro ⟨hlength, hentries, hzero, hmono⟩
    refine ⟨⟨⟨hlength, hentries⟩, fun n hn => ?_⟩, fun i hi => hmono (36 + i) (by omega) (by omega)⟩
    by_cases hin : 36 ≤ n ∧ n ≤ 71
    · exact .inl hin
    · exact .inr (hzero n hn (by omega))

theorem noteTablesSound_of_construct {p : Params} {s : State} (h : construct p = .ok s) :
    NoteTableSound p.tableA ∧ NoteTableSound p.tableB := by
  obtain ⟨hdefect, -⟩ := construct_eq_ok_iff.mp h
  obtain ⟨-, -, htables, -⟩ := defect_eq_none_iff.mp hdefect
  rw [tablesOk, Bool.and_eq_true] at htables
  exact ⟨tableOk_iff.mp htables.1, tableOk_iff.mp htables.2⟩

/-! ### Reads of a table -/

/-- An index with no entry reads 0 (rule R41). -/
theorem memRead_of_length_le {table : List Nat} {i : Nat} (h : table.length ≤ i) : memRead table i = 0 :=
  List.getD_eq_default _ _ h

/-- A read is an entry or the 0 of rule R41, so it keeps every bound of the entries. -/
theorem memRead_le {table : List Nat} {b : Nat} (h : ∀ c ∈ table, c ≤ b) (i : Nat) : memRead table i ≤ b := by
  rcases Nat.lt_or_ge i table.length with hi | hi
  · rw [memRead, List.getD_eq_getElem _ _ hi]
    exact h _ (List.getElem_mem hi)
  · simp [memRead_of_length_le hi]

section
variable {table : List Nat} (h : NoteTableSound table)
include h

/-- In a table of 128 entries the lookup's own bound of 127 changes nothing: past it a read gives 0 anyway. -/
theorem lookupNote_eq_memRead (n : Byte) : lookupNote table n = memRead table n.toNat := by
  unfold lookupNote
  split
  · rfl
  · exact (memRead_of_length_le (by rw [h.length]; omega)).symm

theorem memRead_eq_zero_of_outside {i : Nat} (hi : i < 36 ∨ 71 < i) : memRead table i = 0 := by
  rcases Nat.lt_or_ge i 128 with hlt | hge
  · exact h.zeroOutside i hlt hi
  · exact memRead_of_length_le (h.length.trans_le hge)

/-- From the one-step order of rule R43 to the order of any two notes inside, by induction on the upper one. -/
theorem memRead_le_memRead_of_le {i j : Nat} (hi : 36 ≤ i) (hij : i ≤ j) (hj : j ≤ 71) :
    memRead table i ≤ memRead table j := by
  induction j, hij using Nat.le_induction with
  | base => exact le_rfl
  | succ j hij ih =>
    calc memRead table i ≤ memRead table j := ih (by omega)
      _ ≤ memRead table (j + 1) := h.monotone j (by omega) (by omega)

end

/-- Settles O46: construction lets only sound tables through (rule R43), and in a sound table a lookup is a plain
read. -/
theorem noteLookupIsZeroOutsideTheRange : Obligations.NoteLookupIsZeroOutsideTheRange := by
  intro p s hbuilt table htable
  obtain ⟨hA, hB⟩ := noteTablesSound_of_construct hbuilt
  have hsound : NoteTableSound table := by
    rcases List.mem_pair.mp htable with rfl | rfl
    · exact hA
    · exact hB
  simp only [lookupNote_eq_memRead hsound]
  exact ⟨fun _ hout => memRead_eq_zero_of_outside hsound hout,
    fun _ _ hlo hle hhi => memRead_le_memRead_of_le hsound hlo hle hhi,
    fun n => memRead_le hsound.entries n.toNat⟩

end Sys2Proof.Proofs.Memory
end

section
/-! Output addressing (rules R13, R67, R73): a wire word is its control nibble followed by its clamped code, so each
field is read back as it was packed. -/

namespace Sys2Proof.Proofs.OutputAddressing
open Sys2Proof Sys2Proof.Machine

/-- Clamping leaves a value that 12 bits hold, so the code loses nothing of it (rule R13). -/
theorem toNat_clampCode (value : ℤ) : ((clampCode value).toNat : ℤ) = min 4095 (max 0 value) := by
  have hnonneg : 0 ≤ min 4095 (max 0 value) := by omega
  have hlt : (min 4095 (max 0 value)).toNat < 2 ^ 12 := by omega
  rw [clampCode, BitVec.toNat_ofNat, Nat.mod_eq_of_lt hlt, Int.toNat_of_nonneg hnonneg]

/-- The shift and the disjunction of rule R73 never overlap: they put the two fields side by side. -/
theorem wireWord_eq_append (p : Params) (value : ℤ) (sub : Nat) (gain : GainMode) :
    wireWord p value sub gain = ctrlNibble p.ctrl sub gain ++ clampCode value := by
  rw [wireWord, BitVec.append_def, BitVec.shiftLeftZeroExtend_eq, BitVec.setWidth'_eq]

/-- Settles O7: the word is the nibble followed by the code, so each extract gives its field back. -/
theorem wireWordPacksTheClampedCode : Obligations.WireWordPacksTheClampedCode := by
  intro p value sub gain
  rw [wireWord_eq_append]
  constructor
  · exact BitVec.extractLsb'_append_eq_left
  · rw [BitVec.extractLsb'_append_eq_right]
    exact toNat_clampCode value

end Sys2Proof.Proofs.OutputAddressing
end

section
/-! The transport gate's completion (rule R77): the busy flag alone decides what DONE does, and the bank it names is
never read. -/

namespace Sys2Proof.Proofs.TransportGate
open Sys2Proof Sys2Proof.Machine

/-- DONE always completes, in the state the gate's completion gives. -/
theorem exec_done (b : Byte) (s : State) : exec (.done b) s = .next (transferDone b s) := rfl

/-- An outstanding transfer ends: the gate is open and selects no bank. -/
theorem transferDone_of_busy {s : State} (h : s.busy = true) (b : Byte) :
    transferDone b s = s.setGate false none := by
  rw [transferDone, if_pos h, gateRelease]

/-- A completion that nothing waits for is ignored. -/
theorem transferDone_of_free {s : State} (h : s.busy = false) (b : Byte) : transferDone b s = s := by
  rw [transferDone, if_neg (Bool.eq_false_iff.mp h)]

/-- Settles O21: one case for an outstanding transfer, one for a free gate, the bank byte arbitrary in both. -/
theorem doneFreesTheGateWhateverTheBank : Obligations.DoneFreesTheGateWhateverTheBank := by
  intro b s
  rw [exec_done]
  constructor
  · intro hbusy
    rw [transferDone_of_busy hbusy, State.setGate]
  · intro hfree
    rw [transferDone_of_free hfree]

end Sys2Proof.Proofs.TransportGate
end

section
/-! What one tick sends (rules R111, R113, R117, R119): after the drum countdown the gate and the trace are those of a
tick that has sent nothing, and one emission from there is all that an envelope phase can add. -/

namespace Sys2Proof.Proofs.TickOutput
open Sys2Proof Sys2Proof.Machine

/-- TICK always completes. -/
theorem exec_tick (s : State) : exec .tick s = .next (tick s) := rfl

theorem tick_of_vcaPhase {s : State} (h : s.p = 2) : tick s = advancePhase (vcaStep (drumCountdown s)) := by
  rw [tick, h, slowUpdate]

theorem tick_of_vcfPhase {s : State} (h : s.p = 3) : tick s = advancePhase (vcfStep (drumCountdown s)) := by
  rw [tick, h, slowUpdate]

/-- In its phase the VCA's runtime takes one step; the countdown before it touches nothing the step reads. -/
theorem tick_vca_of_vcaPhase {s : State} (h : s.p = 2) : (tick s).vca = (vcaStep s).vca := by
  simp [tick_of_vcaPhase h, advancePhase, vcaStep_vca]

/-- In its phase the VCF's runtime takes one step; the countdown before it touches nothing the step reads. -/
theorem tick_vcf_of_vcfPhase {s : State} (h : s.p = 3) : (tick s).vcf = (vcfStep s).vcf := by
  simp [tick_of_vcfPhase h, advancePhase, vcfStep_vcf]

/-! ### `Silent` and `Sent` read the gate and the trace alone -/

section
variable {s u : State} {out : LogicalOutput} {value : ℤ}

@[simp] theorem silent_advancePhase : Silent s (advancePhase u) ↔ Silent s u := Iff.rfl
@[simp] theorem silent_setVca {r : VcaRuntime} : Silent s (u.setVca r) ↔ Silent s u := Iff.rfl
@[simp] theorem silent_setVcf {r : VcfRuntime} : Silent s (u.setVcf r) ↔ Silent s u := Iff.rfl
@[simp] theorem sent_advancePhase : Sent out value s (advancePhase u) ↔ Sent out value s u := Iff.rfl
@[simp] theorem sent_setVca {r : VcaRuntime} : Sent out value s (u.setVca r) ↔ Sent out value s u := Iff.rfl
@[simp] theorem sent_setVcf {r : VcfRuntime} : Sent out value s (u.setVcf r) ↔ Sent out value s u := Iff.rfl

@[simp] theorem silent_drumCountdown : Silent s (drumCountdown s) := by
  simp [Silent]

/-- One emission by a tick that has sent nothing so far is what the tick sent (rules R75, R76). -/
theorem sent_emit_of_silent (h : Silent s u) (hparams : u.params = s.params) : Sent out value s (emit out value u) := by
  obtain ⟨hbusy, hsel, hfaults, htrace⟩ := h
  refine ⟨emit_busy_after out value u, fun hfree => ?_, fun hheld => ?_⟩
  · rw [emit_free (hbusy.trans hfree), hparams]
    simp [hfaults, htrace]
  · rw [emit_busy (hbusy.trans hheld)]
    simp [hsel, hfaults, htrace, hparams]

theorem sent_emitVca_of_silent (h : Silent s u) (hparams : u.params = s.params) (level : ℚ) :
    Sent .vcaLevel ⌊level * (s.params.vcaFullScale : ℚ)⌋ s (emitVca level u) := by
  rw [emitVca, vcaCode, hparams]
  exact sent_emit_of_silent h hparams

theorem sent_emitVcf_of_silent (h : Silent s u) (hparams : u.params = s.params) (level : ℚ) :
    Sent .vcfCutoff ⌊level + u.vcf.keyboardShift⌋ s (emitVcf level u) :=
  sent_emit_of_silent h hparams

end

end Sys2Proof.Proofs.TickOutput
end

section
/-! The VCA envelope's ATTACK and RELEASE steps (rules R87, R89): the step as a whole, the runtime it leaves, and what
the tick of phase 2 sends. -/

namespace Sys2Proof.Proofs.VcaEnvelope
open Sys2Proof Sys2Proof.Machine Sys2Proof.Proofs.TickOutput

/-! ### The runtime after the addition -/

theorem vcaAttackNext_of_reached {p : Params} {c : EnvConfig} {r : VcaRuntime}
    (h : r.targetLevel ≤ r.currentLevel + r.perTickDelta) :
    vcaAttackNext p c r =
      { state := .decay
        currentLevel := r.currentLevel + r.perTickDelta
        targetLevel := r.targetLevel * c.sustainLevel
        perTickDelta :=
          (r.targetLevel * c.sustainLevel - (r.currentLevel + r.perTickDelta)) * tickPeriodMs p / c.decayTimeMs } :=
  if_pos h

theorem vcaAttackNext_of_below {p : Params} {c : EnvConfig} {r : VcaRuntime}
    (h : r.currentLevel + r.perTickDelta < r.targetLevel) :
    vcaAttackNext p c r = { r with currentLevel := r.currentLevel + r.perTickDelta } :=
  if_neg h.not_ge

theorem vcaReleaseNext_of_nonpos {r : VcaRuntime} (h : r.currentLevel + r.perTickDelta ≤ 0) :
    vcaReleaseNext r = { r with state := .idle, currentLevel := 0 } :=
  if_pos h

theorem vcaReleaseNext_of_pos {r : VcaRuntime} (h : 0 < r.currentLevel + r.perTickDelta) :
    vcaReleaseNext r = { r with currentLevel := r.currentLevel + r.perTickDelta } :=
  if_neg h.not_ge

/-! ### One step -/

theorem vcaStep_of_attack {s : State} (h : s.vca.state = .attack) :
    vcaStep s = (emitVca s.vca.currentLevel s).setVca (vcaAttackNext s.params s.cfgVca s.vca) := by
  simp [vcaStep, vcaStepAttack, h]

theorem vcaStep_of_release_nonpos {s : State} (h : s.vca.state = .release) (hlevel : s.vca.currentLevel ≤ 0) :
    vcaStep s = s.setVca { s.vca with state := .idle } := by
  simp [vcaStep, vcaStepRelease, h, hlevel]

theorem vcaStep_of_release_pos {s : State} (h : s.vca.state = .release) (hlevel : 0 < s.vca.currentLevel) :
    vcaStep s = emitVca (vcaReleaseNext s.vca).currentLevel (s.setVca (vcaReleaseNext s.vca)) := by
  simp [vcaStep, vcaStepRelease, h, hlevel]

/-! ### What the tick of phase 2 sends -/

section
variable {s : State} (hphase : s.p = 2)
include hphase

theorem tick_sent_of_vcaAttack (h : s.vca.state = .attack) :
    Sent .vcaLevel ⌊s.vca.currentLevel * (s.params.vcaFullScale : ℚ)⌋ s (tick s) := by
  rw [tick_of_vcaPhase hphase, vcaStep_of_attack (by simpa using h)]
  simpa using sent_emitVca_of_silent silent_drumCountdown (drumCountdown_params s) s.vca.currentLevel

theorem tick_silent_of_vcaRelease (h : s.vca.state = .release) (hlevel : s.vca.currentLevel ≤ 0) :
    Silent s (tick s) := by
  rw [tick_of_vcaPhase hphase, vcaStep_of_release_nonpos (by simpa using h) (by simpa using hlevel)]
  simp

theorem tick_sent_of_vcaRelease (h : s.vca.state = .release) (hlevel : 0 < s.vca.currentLevel) :
    Sent .vcaLevel ⌊(vcaReleaseNext s.vca).currentLevel * (s.params.vcaFullScale : ℚ)⌋ s (tick s) := by
  rw [tick_of_vcaPhase hphase, vcaStep_of_release_pos (by simpa using h) (by simpa using hlevel),
    drumCountdown_vca, sent_advancePhase]
  exact sent_emitVca_of_silent (by simp) (by simp) _

end

/-- Settles O28: the level is sent before the addition, and the addition alone decides the transition. -/
theorem vcaAttackStepEmitsThenAdds : Obligations.VcaAttackStepEmitsThenAdds := by
  intro s hphase hstate level target
  have hvca : (tick s).vca = vcaAttackNext s.params s.cfgVca s.vca := by
    rw [tick_vca_of_vcaPhase hphase, vcaStep_vca, hstate]
  exact ⟨tick s, exec_tick s, tick_sent_of_vcaAttack hphase hstate,
    fun hreached => hvca.trans (vcaAttackNext_of_reached hreached),
    fun hbelow => hvca.trans (vcaAttackNext_of_below hbelow)⟩

/-- Settles O30: at rest already, at rest after this addition (code 0), or still above rest. -/
theorem vcaReleaseStepEndsAtZero : Obligations.VcaReleaseStepEndsAtZero := by
  intro s hphase hstate level
  have hvca : (tick s).vca =
      if s.vca.currentLevel ≤ 0 then { s.vca with state := .idle } else vcaReleaseNext s.vca := by
    rw [tick_vca_of_vcaPhase hphase, vcaStep_vca, hstate]
  refine ⟨tick s, exec_tick s, fun hrest => ?_, fun habove hends => ?_, fun habove hstays => ?_⟩
  · exact ⟨tick_silent_of_vcaRelease hphase hstate hrest, hvca.trans (if_pos hrest)⟩
  · have hnext := vcaReleaseNext_of_nonpos hends
    have hsent := tick_sent_of_vcaRelease hphase hstate habove
    rw [hnext, zero_mul, Int.floor_zero] at hsent
    exact ⟨hsent, (hvca.trans (if_neg habove.not_ge)).trans hnext⟩
  · have hnext := vcaReleaseNext_of_pos hstays
    have hsent := tick_sent_of_vcaRelease hphase hstate habove
    rw [hnext] at hsent
    exact ⟨hsent, (hvca.trans (if_neg habove.not_ge)).trans hnext⟩

end Sys2Proof.Proofs.VcaEnvelope
end

section
/-! The VCF envelope's ATTACK and RELEASE steps (rules R91, R93): the step as a whole, the runtime it leaves, and what
the tick of phase 3 sends. -/

namespace Sys2Proof.Proofs.VcfEnvelope
open Sys2Proof Sys2Proof.Machine Sys2Proof.Proofs.TickOutput

/-! ### The runtime after the addition -/

/-- The last step of an ATTACK leg, its budget counted after the addition (rule R91). -/
theorem vcfAttackNext_of_last {p : Params} {c : VcfConfig} {rest : ℚ} {r : VcfRuntime}
    (h : r.ticksToTarget ≤ r.elapsedTicks + 1) :
    vcfAttackNext p c rest r =
      { state := .decay
        currentLevel := r.currentLevel + r.perTickDelta
        targetLevel := rest + (r.targetLevel - rest) * c.sustainLevel
        perTickDelta :=
          (rest + (r.targetLevel - rest) * c.sustainLevel - (r.currentLevel + r.perTickDelta)) /
            (stepBudget p c.decayTimeMs : ℚ)
        elapsedTicks := 0
        ticksToTarget := stepBudget p c.decayTimeMs
        keyboardShift := r.keyboardShift } :=
  if_pos h

theorem vcfAttackNext_of_earlier {p : Params} {c : VcfConfig} {rest : ℚ} {r : VcfRuntime}
    (h : r.elapsedTicks + 1 < r.ticksToTarget) :
    vcfAttackNext p c rest r =
      { r with currentLevel := r.currentLevel + r.perTickDelta, elapsedTicks := r.elapsedTicks + 1 } :=
  if_neg h.not_ge

theorem vcfReleaseNext_of_last {r : VcfRuntime} (h : r.ticksToTarget ≤ r.elapsedTicks + 1) :
    vcfReleaseNext r =
      { r with state := .idle, currentLevel := r.targetLevel, elapsedTicks := r.elapsedTicks + 1 } :=
  if_pos h

theorem vcfReleaseNext_of_earlier {r : VcfRuntime} (h : r.elapsedTicks + 1 < r.ticksToTarget) :
    vcfReleaseNext r =
      { r with currentLevel := r.currentLevel + r.perTickDelta, elapsedTicks := r.elapsedTicks + 1 } :=
  if_neg h.not_ge

@[simp] theorem vcfReleaseNext_keyboardShift (r : VcfRuntime) :
    (vcfReleaseNext r).keyboardShift = r.keyboardShift := by
  rcases Nat.lt_or_ge (r.elapsedTicks + 1) r.ticksToTarget with hearlier | hlast
  · rw [vcfReleaseNext_of_earlier hearlier]
  · rw [vcfReleaseNext_of_last hlast]

/-! ### One step -/

theorem vcfStep_of_attack {s : State} (h : s.vcf.state = .attack) :
    vcfStep s =
      (emitVcf s.vcf.currentLevel s).setVcf (vcfAttackNext s.params s.cfgVcf s.glob.vcfCutoff s.vcf) := by
  simp [vcfStep, vcfStepAttack, h]

theorem vcfStep_of_release_complete {s : State} (h : s.vcf.state = .release)
    (hbudget : s.vcf.ticksToTarget ≤ s.vcf.elapsedTicks) : vcfStep s = s.setVcf { s.vcf with state := .idle } := by
  simp [vcfStep, vcfStepRelease, h, hbudget]

theorem vcfStep_of_release_within {s : State} (h : s.vcf.state = .release)
    (hbudget : s.vcf.elapsedTicks < s.vcf.ticksToTarget) :
    vcfStep s = emitVcf (vcfReleaseNext s.vcf).currentLevel (s.setVcf (vcfReleaseNext s.vcf)) := by
  simp [vcfStep, vcfStepRelease, h, hbudget]

/-! ### What the tick of phase 3 sends -/

section
variable {s : State} (hphase : s.p = 3)
include hphase

theorem tick_sent_of_vcfAttack (h : s.vcf.state = .attack) :
    Sent .vcfCutoff ⌊s.vcf.currentLevel + s.vcf.keyboardShift⌋ s (tick s) := by
  rw [tick_of_vcfPhase hphase, vcfStep_of_attack (by simpa using h)]
  simpa using sent_emitVcf_of_silent silent_drumCountdown (drumCountdown_params s) s.vcf.currentLevel

theorem tick_silent_of_vcfRelease (h : s.vcf.state = .release)
    (hbudget : s.vcf.ticksToTarget ≤ s.vcf.elapsedTicks) : Silent s (tick s) := by
  rw [tick_of_vcfPhase hphase, vcfStep_of_release_complete (by simpa using h) (by simpa using hbudget)]
  simp

theorem tick_sent_of_vcfRelease (h : s.vcf.state = .release)
    (hbudget : s.vcf.elapsedTicks < s.vcf.ticksToTarget) :
    Sent .vcfCutoff ⌊(vcfReleaseNext s.vcf).currentLevel + s.vcf.keyboardShift⌋ s (tick s) := by
  rw [tick_of_vcfPhase hphase, vcfStep_of_release_within (by simpa using h) (by simpa using hbudget),
    drumCountdown_vcf, sent_advancePhase, ← vcfReleaseNext_keyboardShift]
  exact sent_emitVcf_of_silent (u := (drumCountdown s).setVcf (vcfReleaseNext s.vcf)) (by simp) (by simp) _

end

/-- Settles O31: the level is sent before the addition, and the count after it decides the transition. -/
theorem vcfAttackStepEmitsThenAdds : Obligations.VcfAttackStepEmitsThenAdds := by
  intro s hphase hstate level target budget
  have hvcf : (tick s).vcf = vcfAttackNext s.params s.cfgVcf s.glob.vcfCutoff s.vcf := by
    rw [tick_vcf_of_vcfPhase hphase, vcfStep_vcf, hstate]
  exact ⟨tick s, exec_tick s, tick_sent_of_vcfAttack hphase hstate,
    fun hlast => hvcf.trans (vcfAttackNext_of_last hlast),
    fun hearlier => hvcf.trans (vcfAttackNext_of_earlier hearlier)⟩

/-- Settles O33: past the budget, on the budget's last step, or on an earlier one. -/
theorem vcfReleaseStepEndsAtTheTarget : Obligations.VcfReleaseStepEndsAtTheTarget := by
  intro s hphase hstate
  have hvcf : (tick s).vcf =
      if s.vcf.elapsedTicks ≥ s.vcf.ticksToTarget then { s.vcf with state := .idle } else vcfReleaseNext s.vcf := by
    rw [tick_vcf_of_vcfPhase hphase, vcfStep_vcf, hstate]
  refine ⟨tick s, exec_tick s, fun hcomplete => ?_, fun hlast => ?_, fun hearlier => ?_⟩
  · exact ⟨tick_silent_of_vcfRelease hphase hstate hcomplete, hvcf.trans (if_pos hcomplete)⟩
  · have hwithin : s.vcf.elapsedTicks < s.vcf.ticksToTarget := by omega
    have hnext := vcfReleaseNext_of_last hlast.ge
    have hsent := tick_sent_of_vcfRelease hphase hstate hwithin
    rw [hnext] at hsent
    exact ⟨hsent, (hvcf.trans (if_neg hwithin.not_ge)).trans hnext⟩
  · have hwithin : s.vcf.elapsedTicks < s.vcf.ticksToTarget := by omega
    have hnext := vcfReleaseNext_of_earlier hearlier
    have hsent := tick_sent_of_vcfRelease hphase hstate hwithin
    rw [hnext] at hsent
    exact ⟨hsent, (hvcf.trans (if_neg hwithin.not_ge)).trans hnext⟩

end Sys2Proof.Proofs.VcfEnvelope
end

section
/-! The envelope triggers (rules R83, R94 to R97, R102, R103): the next state of a note-on and of a note-off, and the
range of the velocity factor. -/

namespace Sys2Proof.Proofs.EnvelopeTriggers
open Sys2Proof Sys2Proof.Machine

theorem exec_noteOn (ch : Nibble) (n v : Byte) (s : State) : exec (.noteOn ch n v) s = .next (noteOn n v s) := rfl

theorem exec_noteOff (ch : Nibble) (n v : Byte) (s : State) : exec (.noteOff ch n v) s = .next (noteOff s) := rfl

theorem exec_noteOnVel0Off (ch : Nibble) (n : Byte) (s : State) :
    exec (.noteOnVel0Off ch n) s = .next (noteOff s) := rfl

/-- Each of the three writes of a note-on reads what the writes before it left alone, but for the stored note. -/
theorem noteOn_eq (n v : Byte) (s : State) :
    noteOn n v s = { s with
      midi := { note := n, velocity := v }
      vca := vcaNoteOnNext s.params s.cfgVca v s.vca
      vcf := vcfNoteOnNext s.params s.cfgVcf s.glob.vcfCutoff { note := n, velocity := v } s.vcf } := by
  simp [noteOn, noteOnVcf, noteOnVca, State.setMidi, State.setVca, State.setVcf]

/-- The two writes of a note-off read nothing of each other. -/
theorem noteOff_eq (s : State) :
    noteOff s = { s with
      vca := vcaNoteOffNext s.params s.cfgVca s.vca
      vcf := vcfNoteOffNext s.params s.cfgVcf s.glob.vcfCutoff s.vcf } := by
  simp [noteOff, noteOffVcf, noteOffVca, State.setVca, State.setVcf]

/-- Settles O11: the note is stored first, so both envelopes start with the velocity of this note-on. -/
theorem noteOnStartsBothEnvelopes : Obligations.NoteOnStartsBothEnvelopes := by
  intro ch n v s vfVca vfVcf budget
  rw [exec_noteOn, noteOn_eq, vcaNoteOnNext, vcfNoteOnNext]
  rfl

/-- Settles O12: neither meaning reads a field of its message, so the two are one note-off. -/
theorem noteOffReleasesBothEnvelopes : Obligations.NoteOffReleasesBothEnvelopes := by
  intro ch n v s budget t
  have hnext : noteOff s = t := noteOff_eq s
  rw [exec_noteOff, exec_noteOnVel0Off, hnext]
  exact ⟨rfl, rfl⟩

/-! ### The velocity factor -/

theorem clamp127_div_mem_unit (b : Byte) : 0 ≤ (clamp127 b : ℚ) / 127 ∧ (clamp127 b : ℚ) / 127 ≤ 1 := by
  have hle : (clamp127 b : ℚ) ≤ 127 := by exact_mod_cast min_le_right b.toNat 127
  exact ⟨by positivity, div_le_one_of_le₀ hle (by norm_num)⟩

/-- The factor is a mean of 1 and the scaled velocity, weighted by the sensitivity (rule R83). -/
theorem velocityFactor_mem_unit {sens : ℚ} (h0 : 0 ≤ sens) (h1 : sens ≤ 1) (vel : Byte) :
    0 ≤ velocityFactor sens vel ∧ velocityFactor sens vel ≤ 1 := by
  obtain ⟨hc0, hc1⟩ := clamp127_div_mem_unit vel
  have hnonneg : 0 ≤ (clamp127 vel : ℚ) / 127 * sens := mul_nonneg hc0 h0
  have hle : (clamp127 vel : ℚ) / 127 * sens ≤ sens := mul_le_of_le_one_left h0 hc1
  rw [velocityFactor]
  constructor <;> linarith

theorem velocityFactor_zero (vel : Byte) : velocityFactor 0 vel = 1 := by
  simp [velocityFactor]

theorem velocityFactor_one (vel : Byte) : velocityFactor 1 vel = (clamp127 vel : ℚ) / 127 := by
  simp [velocityFactor]

/-- Settles O47: the formula is the model's own; the range is that of a weighted mean, the ends its two weights. -/
theorem velocityFactorIsInTheUnitInterval : Obligations.VelocityFactorIsInTheUnitInterval := by
  intro sens vel
  exact ⟨rfl, fun h0 h1 => velocityFactor_mem_unit h0 h1 vel, velocityFactor_zero vel, velocityFactor_one vel⟩

end Sys2Proof.Proofs.EnvelopeTriggers
end

section
/-! The drum and ignored messages (rules R104, R110): what arming a voice writes, and the two cases of a drum note-on,
told apart by the note map alone. -/

namespace Sys2Proof.Proofs.DrumMessages
open Sys2Proof Sys2Proof.Machine

/-- IGNORED completes in the state it was given (rule R110). -/
theorem exec_ignored (kind ch : Nibble) (d1 d2 : Byte) (s : State) : exec (.ignored kind ch d1 d2) s = .next s := rfl

/-- The three writes of arming a voice: none reads what another wrote, nor the countdown that was running. -/
theorem armDrum_eq (v : Nat) (s : State) :
    armDrum v s = { s with
      drumCount := s.drumCount.set v s.params.drumPulse
      trig := s.trig.set v .activeLvl
      trace := s.trace ++ [.setTrigger v .activeLvl] } := by
  rw [armDrum, driveTrigger, State.setDrumCount, State.setTrig, State.emitOut]

theorem exec_drumNoteOn_of_unmapped {note : Byte} {s : State} (h : drumVoice s.params note = none) (ch : Nibble)
    (vel : Byte) : exec (.drumNoteOn ch note vel) s = .next s := by
  rw [exec, execDrumNoteOn, h]

theorem exec_drumNoteOn_of_mapped {note : Byte} {s : State} {v : Nat} (h : drumVoice s.params note = some v)
    (ch : Nibble) (vel : Byte) : exec (.drumNoteOn ch note vel) s = .next (armDrum v s) := by
  rw [exec, execDrumNoteOn, h]

/-- Settles O10: one case for a note that names no voice, one for a note that does; channel and velocity are not
read. -/
theorem drumNoteOnArmsItsVoice : Obligations.DrumNoteOnArmsItsVoice := by
  intro ch note vel s
  constructor
  · intro hunmapped
    exact exec_drumNoteOn_of_unmapped hunmapped ch vel
  · intro v hmapped
    rw [exec_drumNoteOn_of_mapped hmapped, armDrum_eq]

/-- Settles O13: the row reads none of its fields. -/
theorem ignoredMessageChangesNothing : Obligations.IgnoredMessageChangesNothing :=
  exec_ignored

end Sys2Proof.Proofs.DrumMessages
end

section
/-! The parameter rows (rules R105 to R107): every `CC_*` row is the register write of its parameter, whose value the
parameter's class gives. -/

namespace Sys2Proof.Proofs.ParameterRows
open Sys2Proof Sys2Proof.Machine

/-- A parameter's row writes that parameter's register; its channel and its controller number are not read. -/
theorem exec_ccInstr (id : ParamId) (ch : Nibble) (cc val : Byte) (s : State) :
    exec (ccInstr id ch cc val) s = .next (writeParam id val s) := by
  cases id <;> rfl

/-- The value of the timed class (rule R106). -/
theorem timedValue_eq (p : Params) (val : Byte) :
    timedValue p val = (((min val.toNat 127 : ℕ) : ℚ) + 1) / 127 * p.maxTime := by
  rw [timedValue, clamp127]

/-- The value of the unit-level class (rule R107). -/
theorem unitValue_eq (val : Byte) : unitValue val = ((min val.toNat 127 : ℕ) : ℚ) / 127 := by
  rw [unitValue, clamp127]

/-- Settles O14: the six rows share one value, that of the timed class, and each writes it to its own register. -/
theorem timedParameterWritesItsRegister : Obligations.TimedParameterWritesItsRegister := by
  intro ch cc val s x
  have hx : timedValue s.params val = x := timedValue_eq s.params val
  have hrow (id : ParamId) : exec (ccInstr id ch cc val) s = .next (writeParam id val s) := exec_ccInstr id ch cc val s
  rw [← hx]
  exact ⟨hrow .vcaAttack, hrow .vcaDecay, hrow .vcaRelease, hrow .vcfAttack, hrow .vcfDecay, hrow .vcfRelease⟩

/-- Settles O15: the five rows share one value, that of the unit-level class, and each writes it to its own
register. -/
theorem unitLevelParameterWritesItsRegister : Obligations.UnitLevelParameterWritesItsRegister := by
  intro ch cc val s x
  have hx : unitValue val = x := unitValue_eq val
  have hrow (id : ParamId) : exec (ccInstr id ch cc val) s = .next (writeParam id val s) := exec_ccInstr id ch cc val s
  rw [← hx]
  exact ⟨hrow .vcaSustain, hrow .vcfSustain, hrow .vcaVelSens, hrow .vcfVelSens, hrow .kbdTracking⟩

end Sys2Proof.Proofs.ParameterRows
end

section
/-! The tick scheduler (rules R111 to R113, R119): what a tick does to the drum counters, the trigger lines and the
trace, and a run of ticks as the iterate of one tick. -/

namespace Sys2Proof.Proofs.TickScheduler
open Sys2Proof Sys2Proof.Machine Sys2Proof.Proofs.TickOutput

/-! ### The drum countdown, read from the counter list -/

theorem drumCountAt_of_getElem? {s : State} {v n : Nat} (h : s.drumCount[v]? = some n) : drumCountAt s v = n := by
  rw [drumCountAt, List.getD_eq_getElem?_getD, h, Option.getD_some]

theorem getElem?_drumCount_of_lt {s : State} {v : Nat} (h : v < s.drumCount.length) :
    s.drumCount[v]? = some (drumCountAt s v) := by
  rw [drumCountAt, List.getD_eq_getElem _ _ h, List.getElem?_eq_getElem h]

/-- A number that is no voice reads 0, so a count of 1 is always an entry of the list. -/
theorem drumCountAt_eq_one_iff {s : State} {v : Nat} : drumCountAt s v = 1 ↔ s.drumCount[v]? = some 1 := by
  refine ⟨fun h => ?_, drumCountAt_of_getElem?⟩
  have hv : v < s.drumCount.length := by
    by_contra hout
    rw [drumCountAt_of_length_le (by omega)] at h
    contradiction
  rw [getElem?_drumCount_of_lt hv, h]

theorem drumEvents_eq (s : State) :
    drumEvents s =
      ((List.range s.params.nDrum).filter fun v => s.drumCount[v]? = some 1).map fun v => .setTrigger v .idleLvl := by
  simp only [drumEvents, drumCountAt_eq_one_iff]

section
variable {s : State} (hcounters : s.drumCount.length = s.params.nDrum) {v n : Nat} (hcount : s.drumCount[v]? = some n)
include hcounters hcount

theorem lt_nDrum_of_getElem? : v < s.params.nDrum := by
  obtain ⟨hv, -⟩ := List.getElem?_eq_some_iff.mp hcount
  omega

/-- Truncated subtraction is rule R112's "no wrap below 0": a counter at 0 stays there. -/
theorem tick_drumCount_getElem? : (tick s).drumCount[v]? = some (n - 1) := by
  have hv := lt_nDrum_of_getElem? hcounters hcount
  rw [tick_drumCount, getElem?_drumCount_of_lt (by rw [drumCountdown_drumCount_length]; omega),
    drumCountdown_countAt, if_pos hv, drumCountAt_of_getElem? hcount]

/-- Of the lines that have a counter, exactly those whose counter reaches 0 in this tick are driven (rule R112). -/
theorem tick_trig_getElem? :
    (tick s).trig[v]? = if n = 1 then s.trig[v]?.map fun _ => .idleLvl else s.trig[v]? := by
  have hv := lt_nDrum_of_getElem? hcounters hcount
  simp only [tick_trig, drumCountdown_trig, drumCountAt_of_getElem? hcount, hv, true_and]

end

/-! ### The trace of a tick -/

/-- One emission appends at most one event, a Transmit: nothing is sent through a busy gate (rule R76). -/
theorem emit_trace (out : LogicalOutput) (value : ℤ) (s : State) :
    ∃ sent, (emit out value s).trace = s.trace ++ sent ∧ sent.length ≤ 1 ∧
      ∀ x ∈ sent, ∃ b w, x = OutEvent.transmit b w := by
  cases hbusy : s.busy with
  | false =>
    rw [emit_free hbusy]
    exact ⟨[_], rfl, le_rfl, fun x hx => ⟨_, _, List.mem_singleton.mp hx⟩⟩
  | true =>
    rw [emit_busy hbusy]
    exact ⟨[], by simp⟩

/-- The idle events of the countdown come first, the tick's at most one Transmit after them (rules R111, R113). -/
theorem tick_trace (s : State) :
    ∃ sent, (tick s).trace = s.trace ++ drumEvents s ++ sent ∧ sent.length ≤ 1 ∧
      ∀ x ∈ sent, ∃ b w, x = OutEvent.transmit b w := by
  rcases tick_gate s with ⟨-, -, -, hsilent⟩ | ⟨out, value, -, -, -, hemit⟩
  · exact ⟨[], by simpa using hsilent⟩
  · rw [hemit, ← drumCountdown_trace]
    exact emit_trace out value (drumCountdown s)

/-- Settles O24: counters and lines change in the countdown alone, and the trace gains its events before whatever the
slow update sends. -/
theorem tickCountsTheDrumsDown : Obligations.TickCountsTheDrumsDown := by
  intro s hlines hcounters
  refine ⟨tick s, exec_tick s, by simp, by simp, fun v n hcount => tick_drumCount_getElem? hcounters hcount,
    fun v hcount => ?_, fun v n hcount hn => ?_, ?_⟩
  · have hv : v < s.trig.length := hlines ▸ hcounters ▸ lt_nDrum_of_getElem? hcounters hcount
    rw [tick_trig_getElem? hcounters hcount, if_pos rfl, List.getElem?_eq_getElem hv, Option.map_some]
  · rw [tick_trig_getElem? hcounters hcount, if_neg hn]
  · rw [← drumEvents_eq]
    exact tick_trace s

/-! ### A tick does not read the events to come (rule R52) -/

section
variable (s : State) (es : List EventWord)

theorem drumStep_setInbox (v : Nat) : drumStep (s.setInbox es) v = (drumStep s v).setInbox es := by
  have hcount : drumCountAt (s.setInbox es) v = drumCountAt s v := rfl
  simp only [drumStep, hcount]
  split_ifs <;> rfl

theorem drumCountdown_setInbox : drumCountdown (s.setInbox es) = (drumCountdown s).setInbox es :=
  List.foldl_hom (State.setInbox · es) fun u v => drumStep_setInbox u es v

theorem emit_setInbox (out : LogicalOutput) (value : ℤ) :
    emit out value (s.setInbox es) = (emit out value s).setInbox es := by
  cases hbusy : s.busy with
  | false => rw [emit_free hbusy, emit_free (s := s.setInbox es) hbusy]; rfl
  | true => rw [emit_busy hbusy, emit_busy (s := s.setInbox es) hbusy]; rfl

theorem setVca_setInbox (r : VcaRuntime) : (s.setInbox es).setVca r = (s.setVca r).setInbox es := rfl

theorem setVcf_setInbox (r : VcfRuntime) : (s.setInbox es).setVcf r = (s.setVcf r).setInbox es := rfl

theorem vcaStep_setInbox : vcaStep (s.setInbox es) = (vcaStep s).setInbox es := by
  cases h : s.vca.state with
  | idle => simp [vcaStep, vcaStepIdle, h]
  | attack => simp [vcaStep, vcaStepAttack, h, emitVca, emit_setInbox, setVca_setInbox]
  | decay =>
    by_cases hplateau : s.vca.currentLevel ≤ s.vca.targetLevel <;>
      simp [vcaStep, vcaStepDecay, h, hplateau, emitVca, emit_setInbox, setVca_setInbox]
  | release =>
    by_cases hrest : s.vca.currentLevel ≤ 0 <;>
      simp [vcaStep, vcaStepRelease, h, hrest, emitVca, emit_setInbox, setVca_setInbox]

theorem vcfStep_setInbox : vcfStep (s.setInbox es) = (vcfStep s).setInbox es := by
  cases h : s.vcf.state with
  | idle => simp [vcfStep, vcfStepIdle, h]
  | attack => simp [vcfStep, vcfStepAttack, h, emitVcf, emit_setInbox, setVcf_setInbox]
  | decay =>
    by_cases hplateau : s.vcf.elapsedTicks ≥ s.vcf.ticksToTarget <;>
      simp [vcfStep, vcfStepDecay, h, hplateau, emitVcf, emit_setInbox, setVcf_setInbox]
  | release =>
    by_cases hrest : s.vcf.elapsedTicks ≥ s.vcf.ticksToTarget <;>
      simp [vcfStep, vcfStepRelease, h, hrest, emitVcf, emit_setInbox, setVcf_setInbox]

theorem slowUpdate_setInbox (phase : Nat) :
    slowUpdate phase (s.setInbox es) = (slowUpdate phase s).setInbox es := by
  match phase with
  | 0 => exact emit_setInbox s es _ _
  | 1 => exact emit_setInbox s es _ _
  | 2 => exact vcaStep_setInbox s es
  | 3 => exact vcfStep_setInbox s es
  | _ + 4 => rfl

theorem tick_setInbox : tick (s.setInbox es) = (tick s).setInbox es := by
  rw [tick, drumCountdown_setInbox, slowUpdate_setInbox]
  rfl

end

/-! ### A run of ticks -/

theorem decode_tickWord (p : Params) : decode p tickWord = .tick := by
  simp [decode]

theorem step_of_tickWord {s : State} {rest : List EventWord} (hbuilt : defect s.params = none)
    (hinbox : s.inbox = tickWord :: rest) : step s = .next ((tick s).setInbox rest) := by
  simp only [step, hbuilt, nextEvent, hinbox, decode_tickWord, exec_tick, tick_setInbox]

theorem iterate_tick_params (n : Nat) (s : State) : (tick^[n] s).params = s.params := by
  induction n with
  | zero => rfl
  | succ n ih => rw [Function.iterate_succ_apply', tick_params, ih]

theorem iterate_tick_setInbox (n : Nat) (s : State) (es : List EventWord) :
    tick^[n] (s.setInbox es) = (tick^[n] s).setInbox es :=
  (Function.Commute.iterate_left (g := (State.setInbox · es)) (fun u => tick_setInbox u es) n) s

theorem run_succ_of_step (n : Nat) {s t : State} (h : step s = .next t) :
    Host.Core.run Sys2Proof.core (n + 1) s = Host.Core.run Sys2Proof.core n t := by
  have hstep : Sys2Proof.core.step s = .next t := h
  simp only [Host.Core.run, hstep]

/-- A run over `n` presented TICKs is the `n`-fold tick, with the events taken. -/
theorem run_ticks (n : Nat) (s : State) (rest : List EventWord) (hbuilt : defect s.params = none)
    (hinbox : s.inbox = List.replicate n tickWord ++ rest) :
    Host.Core.run Sys2Proof.core n s = .next ((tick^[n] s).setInbox rest) := by
  induction n generalizing s with
  | zero =>
    have hrest : s.inbox = rest := hinbox
    rw [← hrest]
    rfl
  | succ n ih =>
    rw [run_succ_of_step n (step_of_tickWord hbuilt hinbox), ih _ (by simpa using hbuilt) rfl, iterate_tick_setInbox]
    rfl

theorem iterate_tick_p (n : Nat) {s : State} (h : s.p < s.params.k) : (tick^[n] s).p = (s.p + n) % s.params.k := by
  induction n with
  | zero => exact (Nat.mod_eq_of_lt h).symm
  | succ n ih => rw [Function.iterate_succ_apply', tick_p, ih, iterate_tick_params, Nat.mod_add_mod, Nat.add_assoc]

/-- RESET always completes, with the table of rule R138 as the block's record. -/
theorem exec_reset (s : State) : exec .reset s = .next (s.setBlock (blockReset s.params)) := rfl

/-- Settles O54: the phase advances once per tick of the run, so K of them take it round once. -/
theorem phaseReturnsAfterKTicks : Obligations.PhaseReturnsAfterKTicks := by
  constructor
  · intro n s rest hbuilt hphase hinbox
    have hp : ((tick^[n] s).setInbox rest).p = (s.p + n) % s.params.k := iterate_tick_p n hphase
    refine ⟨_, run_ticks n s rest hbuilt hinbox, rfl, hp, fun hn => ?_⟩
    rw [hp, hn, Nat.add_mod_right, Nat.mod_eq_of_lt hphase]
  · intro s t ht
    obtain rfl : s.setBlock (blockReset s.params) = t := Host.Outcome.next.inj ((exec_reset s).symm.trans ht)
    rfl

end Sys2Proof.Proofs.TickScheduler
end

section
/-! Reset (rule R138): RESET replaces the block's record as a whole, so its next state is the reset table beside the
three fields that are no part of the record. -/

namespace Sys2Proof.Proofs.Reset
open Sys2Proof Sys2Proof.Machine

/-- A write of the record leaves the parameters, the events to come and the trace beside it (rules R17, R42). -/
theorem setBlock_eq_mk (s : State) (b : Block) : s.setBlock b = State.mk b s.params s.inbox s.trace := rfl

/-- Settles O22: the record written is the reset table, whose two envelope rows are the runtimes at rest. -/
theorem resetLoadsTheResetTable : Obligations.ResetLoadsTheResetTable := by
  intro s
  rw [TickScheduler.exec_reset, setBlock_eq_mk, blockReset, vcaReset, vcfReset]

end Sys2Proof.Proofs.Reset
end

section
/-! The rows of the decode table (rules R62, R105): the nineteen `CC_*` rows are one row with a parameter, and what
each of them is told apart by is said once. -/

namespace Sys2Proof.Proofs.DecodeRows
open Sys2Proof Sys2Proof.Machine

/-- Case analysis by decode row: the `CC_*` rows are one case, `ccInstr` of their parameter. -/
theorem rowCases {motive : Instr → Prop} (drumNoteOn : ∀ ch note vel, motive (.drumNoteOn ch note vel))
    (noteOnVel0Off : ∀ ch note, motive (.noteOnVel0Off ch note)) (noteOn : ∀ ch note vel, motive (.noteOn ch note vel))
    (noteOff : ∀ ch note vel, motive (.noteOff ch note vel))
    (controlChange : ∀ ch cc val, motive (.controlChange ch cc val))
    (parameter : ∀ id ch cc val, motive (ccInstr id ch cc val))
    (ignored : ∀ kind ch d1 d2, motive (.ignored kind ch d1 d2)) (tick : motive .tick) (done : ∀ b, motive (.done b))
    (reset : motive .reset) (i : Instr) : motive i := by
  cases i with
  | drumNoteOn ch note vel => exact drumNoteOn ch note vel
  | noteOnVel0Off ch note => exact noteOnVel0Off ch note
  | noteOn ch note vel => exact noteOn ch note vel
  | noteOff ch note vel => exact noteOff ch note vel
  | controlChange ch cc val => exact controlChange ch cc val
  | ccVcaAttack ch cc val => exact parameter .vcaAttack ch cc val
  | ccVcaDecay ch cc val => exact parameter .vcaDecay ch cc val
  | ccVcaSustain ch cc val => exact parameter .vcaSustain ch cc val
  | ccVcaRelease ch cc val => exact parameter .vcaRelease ch cc val
  | ccVcfAttack ch cc val => exact parameter .vcfAttack ch cc val
  | ccVcfDecay ch cc val => exact parameter .vcfDecay ch cc val
  | ccVcfSustain ch cc val => exact parameter .vcfSustain ch cc val
  | ccVcfRelease ch cc val => exact parameter .vcfRelease ch cc val
  | ccVcaVelSens ch cc val => exact parameter .vcaVelSens ch cc val
  | ccVcfVelSens ch cc val => exact parameter .vcfVelSens ch cc val
  | ccKbdTracking ch cc val => exact parameter .kbdTracking ch cc val
  | ccEnvAmount ch cc val => exact parameter .envAmount ch cc val
  | ccCutoff ch cc val => exact parameter .cutoff ch cc val
  | ccResonance ch cc val => exact parameter .resonance ch cc val
  | ccWaveform ch cc val => exact parameter .waveform ch cc val
  | ccOctave ch cc val => exact parameter .octave ch cc val
  | ccDetune ch cc val => exact parameter .detune ch cc val
  | ccSync ch cc val => exact parameter .sync ch cc val
  | ccFilterOrder ch cc val => exact parameter .filterOrder ch cc val
  | ignored kind ch d1 d2 => exact ignored kind ch d1 d2
  | tick => exact tick
  | done b => exact done b
  | reset => exact reset

section
variable (id : ParamId) (ch : Nibble) (cc val : Byte)

@[simp] theorem encode_ccInstr : encode (ccInstr id ch cc val) = dispatchWord 11#4 ch cc val := by
  cases id <;> rfl

@[simp] theorem wellFormed_ccInstr (p : Params) :
    (ccInstr id ch cc val).wellFormed p = true ↔ ccParam p cc = some id := by
  have hmapped : (ccInstr id ch cc val).wellFormed p = Instr.mappedTo p cc id := by cases id <;> rfl
  rw [hmapped, Instr.mappedTo, decide_eq_true_eq]

@[simp] theorem isControlChange_ccInstr : isControlChange (ccInstr id ch cc val) = true := by
  cases id <;> rfl

@[simp] theorem isNoteOn_ccInstr : isNoteOn (ccInstr id ch cc val) = false := by
  cases id <;> rfl

@[simp] theorem isNoteOff_ccInstr : isNoteOff (ccInstr id ch cc val) = false := by
  cases id <;> rfl

end

/-- Row 3 is what neither row above it takes. -/
@[simp] theorem wellFormed_noteOn (p : Params) (ch : Nibble) (note vel : Byte) :
    (Instr.noteOn ch note vel).wellFormed p = true ↔
      ch.toNat ≠ p.drumChannel ∧ ¬ (p.noteOnVel0IsOff = true ∧ vel = 0#8) := by
  simp only [Instr.wellFormed, Bool.and_eq_true, Bool.not_eq_true', ← Bool.not_eq_true, decide_eq_true_eq]

@[simp] theorem wellFormed_noteOnVel0Off (p : Params) (ch : Nibble) (note : Byte) :
    (Instr.noteOnVel0Off ch note).wellFormed p = true ↔ ch.toNat ≠ p.drumChannel ∧ p.noteOnVel0IsOff = true := by
  simp only [Instr.wellFormed, Bool.and_eq_true, decide_eq_true_eq]

@[simp] theorem wellFormed_ignored (p : Params) (kind ch : Nibble) (d1 d2 : Byte) :
    (Instr.ignored kind ch d1 d2).wellFormed p = true ↔ kind ≠ 8#4 ∧ kind ≠ 9#4 ∧ kind ≠ 11#4 := by
  simp only [Instr.wellFormed, Bool.and_eq_true, decide_eq_true_eq, and_assoc]

end Sys2Proof.Proofs.DecodeRows
end

section
/-! Encoding (rules R45, R58 to R63): the decode table and its inverse. A word of tag 0 goes through
`decodeDispatch`, so both round trips and the well-formedness of every decoding are facts about that table. -/

namespace Sys2Proof.Proofs.Encoding
open Sys2Proof Sys2Proof.Machine Sys2Proof.Proofs.DecodeRows

/-! ### Words by tag -/

section
variable (p : Params)

theorem decode_of_tag_dispatch {e : EventWord} (h : eventTag e = 0#2) :
    decode p e = decodeDispatch p (eventKind e) (eventChannel e) (eventData1 e) (eventData2 e) := if_pos h

theorem decode_of_tag_tick {e : EventWord} (h : eventTag e = 1#2) : decode p e = .tick := by simp [decode, h]

theorem decode_of_tag_done {e : EventWord} (h : eventTag e = 2#2) : decode p e = .done (eventData2 e) := by
  simp [decode, h]

theorem decode_of_tag_reset {e : EventWord} (h : eventTag e = 3#2) : decode p e = .reset := by simp [decode, h]

@[simp] theorem decode_dispatchWord (kind ch : Nibble) (d1 d2 : Byte) :
    decode p (dispatchWord kind ch d1 d2) = decodeDispatch p kind ch d1 d2 := by
  simp [decode]

/-! ### The table of rule R62 -/

theorem encode_decodeControlChange (ch : Nibble) (cc val : Byte) :
    encode (decodeControlChange p ch cc val) = dispatchWord 11#4 ch cc val := by
  unfold decodeControlChange
  split
  · exact encode_ccInstr _ _ _ _
  · rfl

/-- Whichever row takes a message, its instruction keeps all four fields. -/
theorem encode_decodeDispatch (kind ch : Nibble) (d1 d2 : Byte) :
    encode (decodeDispatch p kind ch d1 d2) = dispatchWord kind ch d1 d2 := by
  unfold decodeDispatch
  split_ifs with hdrum hvel0 hon hoff hcc
  · rw [hdrum.1, encode]
  · rw [hvel0.1, hvel0.2.2, encode]
  · rw [hon, encode]
  · rw [hoff, encode]
  · rw [hcc, encode_decodeControlChange]
  · rfl

theorem wellFormed_decodeControlChange (ch : Nibble) (cc val : Byte) :
    (decodeControlChange p ch cc val).wellFormed p = true := by
  unfold decodeControlChange
  split
  next id hmapped => exact (wellFormed_ccInstr id ch cc val p).mpr hmapped
  next hunmapped => exact decide_eq_true hunmapped

/-- A row's own condition and the failure of the rows above it are what well-formedness asks of its instruction. -/
theorem wellFormed_decodeDispatch (kind ch : Nibble) (d1 d2 : Byte) :
    (decodeDispatch p kind ch d1 d2).wellFormed p = true := by
  unfold decodeDispatch
  split_ifs with hdrum hvel0 hon hoff hcc
  · exact decide_eq_true hdrum.2
  · exact (wellFormed_noteOnVel0Off p ch d1).mpr ⟨fun hch => hdrum ⟨hvel0.1, hch⟩, hvel0.2.1⟩
  · exact (wellFormed_noteOn p ch d1 d2).mpr ⟨fun hch => hdrum ⟨hon, hch⟩, fun hoff => hvel0 ⟨hon, hoff⟩⟩
  · rfl
  · exact wellFormed_decodeControlChange p ch d1 d2
  · exact (wellFormed_ignored p kind ch d1 d2).mpr ⟨hoff, hon, hcc⟩

end

/-- Settles O1: the well-formedness of a row's instruction is the row's condition, with those above it failing, so the
table gives the instruction back from its word. -/
theorem decodeOfEncodeIsTheInstruction : Obligations.DecodeOfEncodeIsTheInstruction := by
  intro p i hwf
  cases i using rowCases with
  | drumNoteOn ch note vel =>
    have hch : ch.toNat = p.drumChannel := of_decide_eq_true hwf
    simp [encode, decodeDispatch, hch]
  | noteOnVel0Off ch note =>
    obtain ⟨hch, hvel0⟩ := (wellFormed_noteOnVel0Off p ch note).mp hwf
    simp [encode, decodeDispatch, hch, hvel0]
  | noteOn ch note vel =>
    obtain ⟨hch, hvel0⟩ := (wellFormed_noteOn p ch note vel).mp hwf
    simp only [encode, decode_dispatchWord, decodeDispatch, hch, hvel0, and_false, if_false, if_true]
  | noteOff ch note vel => simp [encode, decodeDispatch]
  | controlChange ch cc val =>
    have hunmapped : ccParam p cc = none := of_decide_eq_true hwf
    simp [encode, decodeDispatch, decodeControlChange, hunmapped]
  | parameter id ch cc val =>
    have hmapped : ccParam p cc = some id := (wellFormed_ccInstr id ch cc val p).mp hwf
    simp [decodeDispatch, decodeControlChange, hmapped]
  | ignored kind ch d1 d2 =>
    obtain ⟨hoff, hon, hcc⟩ := (wellFormed_ignored p kind ch d1 d2).mp hwf
    simp [encode, decodeDispatch, hoff, hon, hcc]
  | tick => exact decode_of_tag_tick p eventTag_tickWord
  | done b => simp [encode, decode]
  | reset => exact decode_of_tag_reset p eventTag_resetWord

/-- Settles O2: the table keeps the fields of a message, and those are all of its word. -/
theorem encodeOfDecodedMessageIsTheWord : Obligations.EncodeOfDecodedMessageIsTheWord := by
  intro p e htag
  rw [decode_of_tag_dispatch p htag, encode_decodeDispatch, dispatchWord_fields e htag]

/-- Settles O3: the four tags in turn; only a message asks anything of its fields. -/
theorem everyWordDecodesToAWellFormedInstruction : Obligations.EveryWordDecodesToAWellFormedInstruction := by
  intro p e
  unfold decode
  split_ifs
  · exact wellFormed_decodeDispatch p _ _ _ _
  all_goals rfl

/-! ### Status bytes and their masks -/

/-- Masking by 0xF0 keeps the high half of a status byte. -/
theorem and_highMask (s : Byte) : s &&& 0xF0#8 = s.extractLsb' 4 4 ++ 0#4 := by
  apply BitVec.eq_of_getLsbD_eq
  intro i hi
  simp only [BitVec.getLsbD_and, BitVec.getLsbD_append, BitVec.getLsbD_extractLsb']
  interval_cases i <;> simp

/-- Masking by 0x0F keeps the low half of a status byte. -/
theorem and_lowMask (s : Byte) : s &&& 0x0F#8 = 0#4 ++ s.extractLsb' 0 4 := by
  apply BitVec.eq_of_getLsbD_eq
  intro i hi
  simp only [BitVec.getLsbD_and, BitVec.getLsbD_append, BitVec.getLsbD_extractLsb']
  interval_cases i <;> simp

theorem and_highMask_eq_iff (s : Byte) (kind : Nibble) : s &&& 0xF0#8 = kind ++ 0#4 ↔ s.extractLsb' 4 4 = kind := by
  rw [and_highMask]
  refine ⟨fun h => ?_, fun h => by rw [h]⟩
  have hhigh := congrArg (BitVec.extractLsb' 4 4) h
  rwa [BitVec.extractLsb'_append_eq_left, BitVec.extractLsb'_append_eq_left] at hhigh

theorem toNat_and_lowMask (s : Byte) : (s &&& 0x0F#8).toNat = (s.extractLsb' 0 4).toNat := by
  rw [and_lowMask, BitVec.toNat_append]
  simp

/-- Settles O4: the masks of rule R62 pick the two halves of the status byte that the table reads. -/
theorem messageDecodesByFirstMatchingRow : Obligations.MessageDecodesByFirstMatchingRow := by
  intro p s d1 d2
  have hon : s &&& 0xF0#8 = 0x90#8 ↔ s.extractLsb' 4 4 = 9#4 := and_highMask_eq_iff s 9#4
  have hoff : s &&& 0xF0#8 = 0x80#8 ↔ s.extractLsb' 4 4 = 8#4 := and_highMask_eq_iff s 8#4
  have hcc : s &&& 0xF0#8 = 0xB0#8 ↔ s.extractLsb' 4 4 = 11#4 := and_highMask_eq_iff s 11#4
  simp only [messageWord_eq, decode_dispatchWord, hon, hoff, hcc, toNat_and_lowMask]
  rfl

/-- Settles O5: the tag alone decides, and of a tag-2 payload the low byte is read. -/
theorem ignoredPayloadBitsDoNotMatter : Obligations.IgnoredPayloadBitsDoNotMatter := by
  intro p
  constructor
  · intro x
    exact ⟨decode_of_tag_tick p BitVec.extractLsb'_append_eq_left,
      decode_of_tag_reset p BitVec.extractLsb'_append_eq_left⟩
  · intro x b
    have htag : eventTag (2#2 ++ x ++ b) = 2#2 := by
      rw [eventTag, BitVec.append_assoc]
      exact BitVec.extractLsb'_append_eq_left
    have hbank : eventData2 (2#2 ++ x ++ b) = b := BitVec.extractLsb'_append_eq_right
    rw [decode_of_tag_done p htag, hbank]

/-- A word written out for a well-formed instruction decodes to that instruction. -/
theorem decode_of_encode_eq {p : Params} {i : Instr} {e : EventWord} (hword : encode i = e)
    (hwf : i.wellFormed p = true) : decode p e = i :=
  hword ▸ decodeOfEncodeIsTheInstruction p i hwf

/-- Settles O6: each word is the encoding of its instruction, which is well formed under the set it is read with. -/
theorem writtenWordsDecodeAsTheTableSays : Obligations.WrittenWordsDecodeAsTheTableSays := by
  refine ⟨?_, ?_, ?_, ?_, ?_, ?_, ?_, ?_, ?_, ?_⟩ <;> exact decode_of_encode_eq (by decide) (by decide)

end Sys2Proof.Proofs.Encoding
end

section
/-! The remaining phases of the tick (rules R86, R88, R90, R92, R113 to R119): the pitch phases, the phases with no
slow update, and the envelope steps that rest or decay. With these, what any tick sends is said once. -/

namespace Sys2Proof.Proofs.TickPhases
open Sys2Proof Sys2Proof.Machine Sys2Proof.Proofs.TickOutput Sys2Proof.Proofs.VcaEnvelope Sys2Proof.Proofs.VcfEnvelope

/-! ### Pitch phases and silent phases -/

section
variable {s : State}

theorem tick_sent_of_pitchAPhase (h : s.p = 0) :
    Sent .vcoAPitch (lookupNote s.params.tableA s.midi.note) s (tick s) := by
  rw [tick, h, slowUpdate, pitchA, sent_advancePhase, drumCountdown_params, drumCountdown_midi]
  exact sent_emit_of_silent silent_drumCountdown (drumCountdown_params s)

theorem tick_sent_of_pitchBPhase (h : s.p = 1) :
    Sent .vcoBPitch (lookupNote s.params.tableB s.midi.note) s (tick s) := by
  rw [tick, h, slowUpdate, pitchB, sent_advancePhase, drumCountdown_params, drumCountdown_midi]
  exact sent_emit_of_silent silent_drumCountdown (drumCountdown_params s)

theorem slowUpdate_of_four_le {phase : Nat} (h : 4 ≤ phase) : slowUpdate phase s = s := by
  obtain ⟨n, rfl⟩ := Nat.exists_eq_add_of_le' h
  rfl

theorem tick_silent_of_idlePhase (h : 4 ≤ s.p) : Silent s (tick s) := by
  rw [tick, slowUpdate_of_four_le h]
  simp

/-! ### Envelope steps that rest -/

theorem vcaStep_of_resting
    (h : s.vca.state = .idle ∨ (s.vca.state = .decay ∧ s.vca.currentLevel ≤ s.vca.targetLevel)) : vcaStep s = s := by
  rcases h with hidle | ⟨hdecay, hplateau⟩
  · rw [vcaStep, hidle, vcaStepIdle]
  · rw [vcaStep, hdecay, vcaStepDecay, if_pos hplateau]

theorem vcfStep_of_resting
    (h : s.vcf.state = .idle ∨ (s.vcf.state = .decay ∧ s.vcf.ticksToTarget ≤ s.vcf.elapsedTicks)) : vcfStep s = s := by
  rcases h with hidle | ⟨hdecay, hplateau⟩
  · rw [vcfStep, hidle, vcfStepIdle]
  · rw [vcfStep, hdecay, vcfStepDecay, if_pos hplateau]

theorem tick_silent_of_vcaResting (hphase : s.p = 2)
    (h : s.vca.state = .idle ∨ (s.vca.state = .decay ∧ s.vca.currentLevel ≤ s.vca.targetLevel)) :
    Silent s (tick s) := by
  rw [tick_of_vcaPhase hphase, vcaStep_of_resting (by simpa using h)]
  simp

theorem tick_silent_of_vcfResting (hphase : s.p = 3)
    (h : s.vcf.state = .idle ∨ (s.vcf.state = .decay ∧ s.vcf.ticksToTarget ≤ s.vcf.elapsedTicks)) :
    Silent s (tick s) := by
  rw [tick_of_vcfPhase hphase, vcfStep_of_resting (by simpa using h)]
  simp

/-! ### DECAY steps off the plateau -/

theorem vcaStep_of_decay_above (h : s.vca.state = .decay) (habove : s.vca.targetLevel < s.vca.currentLevel) :
    vcaStep s = emitVca (vcaDecayNext s.vca).currentLevel (s.setVca (vcaDecayNext s.vca)) := by
  rw [vcaStep, h, vcaStepDecay, if_neg habove.not_ge]

theorem vcfStep_of_decay_within (h : s.vcf.state = .decay) (hwithin : s.vcf.elapsedTicks < s.vcf.ticksToTarget) :
    vcfStep s = emitVcf (vcfDecayNext s.vcf).currentLevel (s.setVcf (vcfDecayNext s.vcf)) := by
  rw [vcfStep, h, vcfStepDecay, if_neg hwithin.not_ge]

theorem tick_sent_of_vcaDecay (hphase : s.p = 2) (h : s.vca.state = .decay)
    (habove : s.vca.targetLevel < s.vca.currentLevel) :
    Sent .vcaLevel ⌊(vcaDecayNext s.vca).currentLevel * (s.params.vcaFullScale : ℚ)⌋ s (tick s) := by
  rw [tick_of_vcaPhase hphase, vcaStep_of_decay_above (by simpa using h) (by simpa using habove), drumCountdown_vca,
    sent_advancePhase]
  exact sent_emitVca_of_silent (by simp) (by simp) _

theorem tick_sent_of_vcfDecay (hphase : s.p = 3) (h : s.vcf.state = .decay)
    (hwithin : s.vcf.elapsedTicks < s.vcf.ticksToTarget) :
    Sent .vcfCutoff ⌊(vcfDecayNext s.vcf).currentLevel + s.vcf.keyboardShift⌋ s (tick s) := by
  rw [tick_of_vcfPhase hphase, vcfStep_of_decay_within (by simpa using h) (by simpa using hwithin), drumCountdown_vcf,
    sent_advancePhase]
  exact sent_emitVcf_of_silent (u := (drumCountdown s).setVcf (vcfDecayNext s.vcf)) (by simp) (by simp) _

end

/-- The addition of a DECAY step does not pass the target (rule R88). -/
theorem vcaDecayNext_eq (r : VcaRuntime) :
    vcaDecayNext r = { r with currentLevel := max r.targetLevel (r.currentLevel + r.perTickDelta) } := by
  rw [max_comm, max_def, vcaDecayNext]

/-- The last step of a DECAY leg lands on the target (rule R92). -/
theorem vcfDecayNext_of_last {r : VcfRuntime} (h : r.ticksToTarget ≤ r.elapsedTicks + 1) :
    vcfDecayNext r = { r with currentLevel := r.targetLevel, elapsedTicks := r.elapsedTicks + 1 } := by
  simp only [vcfDecayNext, ge_iff_le, if_pos h]

theorem vcfDecayNext_of_earlier {r : VcfRuntime} (h : r.elapsedTicks + 1 < r.ticksToTarget) :
    vcfDecayNext r =
      { r with currentLevel := r.currentLevel + r.perTickDelta, elapsedTicks := r.elapsedTicks + 1 } := by
  simp only [vcfDecayNext, ge_iff_le, if_neg h.not_ge]

/-! ### What any tick sends -/

/-- The four outputs the block emits to (rule R65). -/
def blockOutputs : List LogicalOutput := [.vcoAPitch, .vcoBPitch, .vcaLevel, .vcfCutoff]

theorem tick_vcaPhase_output {s : State} (hphase : s.p = 2) :
    Silent s (tick s) ∨ ∃ value, Sent .vcaLevel value s (tick s) := by
  cases hstate : s.vca.state with
  | idle => exact .inl (tick_silent_of_vcaResting hphase (.inl hstate))
  | attack => exact .inr ⟨_, tick_sent_of_vcaAttack hphase hstate⟩
  | decay =>
    rcases le_or_gt s.vca.currentLevel s.vca.targetLevel with hplateau | habove
    · exact .inl (tick_silent_of_vcaResting hphase (.inr ⟨hstate, hplateau⟩))
    · exact .inr ⟨_, tick_sent_of_vcaDecay hphase hstate habove⟩
  | release =>
    rcases le_or_gt s.vca.currentLevel 0 with hrest | habove
    · exact .inl (tick_silent_of_vcaRelease hphase hstate hrest)
    · exact .inr ⟨_, tick_sent_of_vcaRelease hphase hstate habove⟩

theorem tick_vcfPhase_output {s : State} (hphase : s.p = 3) :
    Silent s (tick s) ∨ ∃ value, Sent .vcfCutoff value s (tick s) := by
  rcases Nat.lt_or_ge s.vcf.elapsedTicks s.vcf.ticksToTarget with hwithin | hcomplete
  · cases hstate : s.vcf.state with
    | idle => exact .inl (tick_silent_of_vcfResting hphase (.inl hstate))
    | attack => exact .inr ⟨_, tick_sent_of_vcfAttack hphase hstate⟩
    | decay => exact .inr ⟨_, tick_sent_of_vcfDecay hphase hstate hwithin⟩
    | release => exact .inr ⟨_, tick_sent_of_vcfRelease hphase hstate hwithin⟩
  · cases hstate : s.vcf.state with
    | idle => exact .inl (tick_silent_of_vcfResting hphase (.inl hstate))
    | attack => exact .inr ⟨_, tick_sent_of_vcfAttack hphase hstate⟩
    | decay => exact .inl (tick_silent_of_vcfResting hphase (.inr ⟨hstate, hcomplete⟩))
    | release => exact .inl (tick_silent_of_vcfRelease hphase hstate hcomplete)

/-- A tick sends nothing, or one value to one of the block's four outputs (rule R113). -/
theorem tick_silent_or_sent (s : State) :
    Silent s (tick s) ∨ ∃ out ∈ blockOutputs, ∃ value, Sent out value s (tick s) := by
  match hphase : s.p with
  | 0 => exact .inr ⟨_, by simp [blockOutputs], _, tick_sent_of_pitchAPhase hphase⟩
  | 1 => exact .inr ⟨_, by simp [blockOutputs], _, tick_sent_of_pitchBPhase hphase⟩
  | 2 => exact (tick_vcaPhase_output hphase).imp_right fun h => ⟨_, by simp [blockOutputs], h⟩
  | 3 => exact (tick_vcfPhase_output hphase).imp_right fun h => ⟨_, by simp [blockOutputs], h⟩
  | n + 4 => exact .inl (tick_silent_of_idlePhase (by omega))

/-! ### The statements -/

theorem tick_vca_of_otherPhase {s : State} (h : s.p ≠ 2) : (tick s).vca = s.vca := by
  simp [tick, advancePhase, h]

theorem tick_vcf_of_otherPhase {s : State} (h : s.p ≠ 3) : (tick s).vcf = s.vcf := by
  simp [tick, advancePhase, h]

/-- Settles O23: each field is what the tick's frame says of it. -/
theorem tickAdvancesThePhaseAndKeepsTheRest : Obligations.TickAdvancesThePhaseAndKeepsTheRest := by
  intro s
  exact ⟨tick s, exec_tick s, tick_p s, tick_cfgVca s, tick_cfgVcf s, tick_glob s, tick_aux s, tick_midi s,
    tick_params s, tick_inbox s, tick_vca_of_otherPhase, tick_vcf_of_otherPhase⟩

/-- Settles O25: each pitch phase emits the lookup of its own table, which is the code the statement writes out. -/
theorem pitchPhasesSendTheTableCode : Obligations.PitchPhasesSendTheTableCode := by
  intro s
  exact ⟨fun hphase => ⟨tick s, exec_tick s, tick_sent_of_pitchAPhase hphase⟩,
    fun hphase => ⟨tick s, exec_tick s, tick_sent_of_pitchBPhase hphase⟩⟩

/-- Settles O26: from phase 4 on there is no slow update. -/
theorem idlePhasesSendNothing : Obligations.IdlePhasesSendNothing := by
  intro s hphase
  exact ⟨tick s, exec_tick s, tick_silent_of_idlePhase hphase⟩

/-- Settles O27: the step of a resting envelope is the identity. -/
theorem restingEnvelopeSendsNothing : Obligations.RestingEnvelopeSendsNothing := by
  intro s
  constructor
  · intro hphase hrest
    refine ⟨tick s, exec_tick s, tick_silent_of_vcaResting hphase hrest, ?_⟩
    rw [tick_vca_of_vcaPhase hphase, vcaStep_of_resting hrest]
  · intro hphase hrest
    refine ⟨tick s, exec_tick s, tick_silent_of_vcfResting hphase hrest, ?_⟩
    rw [tick_vcf_of_vcfPhase hphase, vcfStep_of_resting hrest]

/-- Settles O29: the level sent is the one the addition leaves, held at the target. -/
theorem vcaDecayStepAddsThenEmits : Obligations.VcaDecayStepAddsThenEmits := by
  intro s hphase hstate habove level
  have hnext : vcaDecayNext s.vca = { s.vca with currentLevel := level } := vcaDecayNext_eq s.vca
  have hsent := tick_sent_of_vcaDecay hphase hstate habove
  rw [hnext] at hsent
  refine ⟨tick s, exec_tick s, hsent, ?_⟩
  rw [tick_vca_of_vcaPhase hphase, vcaStep_of_decay_above hstate habove, hnext]
  simp

/-- Settles O32: the level sent is the one the addition leaves, the target itself on the budget's last step. -/
theorem vcfDecayStepAddsThenEmits : Obligations.VcfDecayStepAddsThenEmits := by
  intro s hphase hstate hwithin level
  have hnext : vcfDecayNext s.vcf = { s.vcf with currentLevel := level, elapsedTicks := s.vcf.elapsedTicks + 1 } := by
    rcases (Nat.succ_le_of_lt hwithin).eq_or_lt with hlast | hearlier
    · rw [vcfDecayNext_of_last hlast.ge, show level = s.vcf.targetLevel from if_pos hlast]
    · rw [vcfDecayNext_of_earlier hearlier,
        show level = s.vcf.currentLevel + s.vcf.perTickDelta from if_neg hearlier.ne]
  have hsent := tick_sent_of_vcfDecay hphase hstate hwithin
  rw [hnext] at hsent
  refine ⟨tick s, exec_tick s, hsent, ?_⟩
  rw [tick_vcf_of_vcfPhase hphase, vcfStep_of_decay_within hstate hwithin, hnext]
  simp

end Sys2Proof.Proofs.TickPhases
end

section
/-! Messages and steps (rules R8, R50, R52, R105, R108, R109, R136): every instruction answers a next state, and one
inversion lemma says which. What an instruction leaves alone, and what it may write, follows from it. -/

namespace Sys2Proof.Proofs.Effects
open Sys2Proof Sys2Proof.Machine Sys2Proof.Proofs.DecodeRows Sys2Proof.Proofs.ParameterRows
  Sys2Proof.Proofs.EnvelopeTriggers Sys2Proof.Proofs.DrumMessages Sys2Proof.Proofs.TransportGate
  Sys2Proof.Proofs.TickOutput Sys2Proof.Proofs.TickScheduler Sys2Proof.Proofs.TickPhases

/-! ### Control changes -/

theorem exec_controlChange (ch : Nibble) (cc val : Byte) (s : State) :
    exec (.controlChange ch cc val) s = .next (paramUpdate cc val s) := rfl

theorem paramUpdate_of_unmapped {cc : Byte} {s : State} (h : ccParam s.params cc = none) (val : Byte) :
    paramUpdate cc val s = s := by
  rw [paramUpdate, h]

theorem paramUpdate_of_mapped {cc : Byte} {s : State} {id : ParamId} (h : ccParam s.params cc = some id) (val : Byte) :
    paramUpdate cc val s = writeParam id val s := by
  rw [paramUpdate, h]

/-- A second write of the same register puts the same value there (rule R50). -/
theorem writeParam_writeParam (id : ParamId) (val : Byte) (s : State) :
    writeParam id val (writeParam id val s) = writeParam id val s := by
  cases id <;> rfl

theorem paramUpdate_paramUpdate (cc val : Byte) (s : State) :
    paramUpdate cc val (paramUpdate cc val s) = paramUpdate cc val s := by
  cases h : ccParam s.params cc with
  | none => simp only [paramUpdate_of_unmapped h]
  | some id =>
    rw [paramUpdate_of_mapped h, paramUpdate_of_mapped (by rwa [writeParam_params]), writeParam_writeParam]

/-- Settles O16: the three rows write the value of the scaled class, each with its own full scale. -/
theorem scaledParameterWritesItsRegister : Obligations.ScaledParameterWritesItsRegister := by
  intro ch cc val s x
  have hrow (id : ParamId) : exec (ccInstr id ch cc val) s = .next (writeParam id val s) := exec_ccInstr id ch cc val s
  exact ⟨hrow .envAmount, hrow .cutoff, hrow .resonance⟩

/-- Settles O17: the five rows write the clamped byte itself, each to its own register. -/
theorem selectorParameterStoresTheRawValue : Obligations.SelectorParameterStoresTheRawValue := by
  intro ch cc val s c
  have hrow (id : ParamId) : exec (ccInstr id ch cc val) s = .next (writeParam id val s) := exec_ccInstr id ch cc val s
  exact ⟨hrow .waveform, hrow .octave, hrow .detune, hrow .sync, hrow .filterOrder⟩

/-- Settles O18: a mapped number is the register write of its parameter, which is what that parameter's row does. -/
theorem controlChangeActsAsItsParameter : Obligations.ControlChangeActsAsItsParameter := by
  intro ch cc val s
  rw [exec_controlChange]
  constructor
  · intro hunmapped
    rw [paramUpdate_of_unmapped hunmapped]
  · intro id hmapped
    exact ⟨writeParam id val s, by rw [paramUpdate_of_mapped hmapped], exec_ccInstr id ch cc val s⟩

/-- Settles O20: a control change is a register write or nothing, and both are idempotent. -/
theorem controlChangeIsIdempotent : Obligations.ControlChangeIsIdempotent := by
  intro i s t hcc h
  cases i using rowCases with
  | controlChange ch cc val =>
    obtain rfl : paramUpdate cc val s = t := Host.Outcome.next.inj h
    rw [exec_controlChange, paramUpdate_paramUpdate]
  | parameter id ch cc val =>
    obtain rfl : writeParam id val s = t := Host.Outcome.next.inj ((exec_ccInstr id ch cc val s).symm.trans h)
    rw [exec_ccInstr, writeParam_writeParam]
  | drumNoteOn | noteOnVel0Off | noteOn | noteOff | ignored | tick | done | reset => cases hcc

theorem notNote_of_isControlChange {i : Instr} (h : isControlChange i = true) :
    isNoteOn i = false ∧ isNoteOff i = false := by
  cases i using rowCases with
  | controlChange ch cc val => exact ⟨rfl, rfl⟩
  | parameter id ch cc val => exact ⟨isNoteOn_ccInstr id ch cc val, isNoteOff_ccInstr id ch cc val⟩
  | drumNoteOn | noteOnVel0Off | noteOn | noteOff | ignored | tick | done | reset => cases h

/-! ### What an instruction can do -/

/-- The effect an instruction has on a state, by what it writes. -/
inductive Effect (s : State) : Instr → State → Prop
  /-- A message that maps to nothing, or is ignored (rules R104, R105, R110). -/
  | unchanged {i : Instr} (hon : isNoteOn i = false) (hoff : isNoteOff i = false) : Effect s i s
  /-- A control change of a mapped number (rule R105). -/
  | configured {i : Instr} (hcc : isControlChange i = true) (id : ParamId) (val : Byte) :
    Effect s i (writeParam id val s)
  /-- A drum note-on of a mapped note (rule R104). -/
  | armed (ch : Nibble) (note vel : Byte) {v : Nat} (hmapped : drumVoice s.params note = some v) :
    Effect s (.drumNoteOn ch note vel) (armDrum v s)
  | noteOn (ch : Nibble) (n v : Byte) : Effect s (.noteOn ch n v) (noteOn n v s)
  | noteOff {i : Instr} (hoff : isNoteOff i = true) : Effect s i (noteOff s)
  | tick : Effect s .tick (tick s)
  | done (b : Byte) : Effect s (.done b) (transferDone b s)
  | reset : Effect s .reset (s.setBlock (blockReset s.params))

/-- Every instruction completes, with one of these effects (rule R8). -/
theorem exists_effect (i : Instr) (s : State) : ∃ t, exec i s = .next t ∧ Effect s i t := by
  cases i using rowCases with
  | drumNoteOn ch note vel =>
    cases h : drumVoice s.params note with
    | none => exact ⟨s, exec_drumNoteOn_of_unmapped h ch vel, .unchanged rfl rfl⟩
    | some v => exact ⟨armDrum v s, exec_drumNoteOn_of_mapped h ch vel, .armed ch note vel h⟩
  | noteOnVel0Off ch note => exact ⟨_, exec_noteOnVel0Off ch note s, .noteOff rfl⟩
  | noteOn ch note vel => exact ⟨_, exec_noteOn ch note vel s, .noteOn ch note vel⟩
  | noteOff ch note vel => exact ⟨_, exec_noteOff ch note vel s, .noteOff rfl⟩
  | controlChange ch cc val =>
    rw [exec_controlChange]
    cases h : ccParam s.params cc with
    | none => exact ⟨s, by rw [paramUpdate_of_unmapped h], .unchanged rfl rfl⟩
    | some id => exact ⟨_, by rw [paramUpdate_of_mapped h], .configured rfl id val⟩
  | parameter id ch cc val =>
    exact ⟨_, exec_ccInstr id ch cc val s, .configured (isControlChange_ccInstr id ch cc val) id val⟩
  | ignored kind ch d1 d2 => exact ⟨s, exec_ignored kind ch d1 d2 s, .unchanged rfl rfl⟩
  | tick => exact ⟨_, exec_tick s, .tick⟩
  | done b => exact ⟨_, exec_done b s, .done b⟩
  | reset => exact ⟨_, exec_reset s, .reset⟩

theorem effect_of_exec {i : Instr} {s t : State} (h : exec i s = .next t) : Effect s i t := by
  obtain ⟨u, hu, heffect⟩ := exists_effect i s
  obtain rfl : u = t := Host.Outcome.next.inj (hu.symm.trans h)
  exact heffect

/-! ### The step -/

theorem step_of_event {s : State} {e : EventWord} {rest : List EventWord} (hbuilt : defect s.params = none)
    (hinbox : s.inbox = e :: rest) : step s = exec (decode s.params e) (s.setInbox rest) := by
  simp only [step, hbuilt, nextEvent, hinbox, State.setInbox_params]

theorem step_of_noEvent {s : State} (hbuilt : defect s.params = none) (hinbox : s.inbox = []) : step s = .next s := by
  simp only [step, hbuilt, nextEvent, hinbox]

theorem step_of_defect {s : State} {d : Defect} (h : defect s.params = some d) :
    step s = .fault (.configDefect d) := by
  simp only [step, h]

/-- A step that answers a next state met no event, or ran the event it took. -/
theorem step_cases {s t : State} (h : step s = .next t) :
    defect s.params = none ∧ ((s.inbox = [] ∧ t = s) ∨
      ∃ e rest, s.inbox = e :: rest ∧ Effect (s.setInbox rest) (decode s.params e) t) := by
  cases hdefect : defect s.params with
  | some d => cases (step_of_defect hdefect).symm.trans h
  | none =>
    cases hinbox : s.inbox with
    | nil => exact ⟨rfl, .inl ⟨rfl, Host.Outcome.next.inj (h.symm.trans (step_of_noEvent hdefect hinbox))⟩⟩
    | cons e rest =>
      exact ⟨rfl, .inr ⟨e, rest, rfl, effect_of_exec ((step_of_event hdefect hinbox).symm.trans h)⟩⟩

/-- Settles O8: fetch and decode are all that stands between `step` and `exec`. -/
theorem stepRunsTheDecodedInstruction : Obligations.StepRunsTheDecodedInstruction := by
  intro s e rest hbuilt hinbox
  exact step_of_event hbuilt hinbox

/-- Settles O9: with no event nothing runs, and with one the instruction it decodes to completes. -/
theorem stepStopsOnlyWithoutABlock : Obligations.StepStopsOnlyWithoutABlock := by
  intro s
  refine ⟨fun hbuilt => ?_, step_of_noEvent, fun d => step_of_defect⟩
  cases hinbox : s.inbox with
  | nil => exact ⟨s, step_of_noEvent hbuilt hinbox⟩
  | cons e rest =>
    obtain ⟨t, ht, -⟩ := exists_effect (decode s.params e) (s.setInbox rest)
    exact ⟨t, (step_of_event hbuilt hinbox).trans ht⟩

/-! ### Who writes what -/

/-- Settles O19: of the effects, only a register write and no effect at all come from a control change. -/
theorem controlChangeLeavesRampsAlone : Obligations.ControlChangeLeavesRampsAlone := by
  intro i s t hcc h
  cases effect_of_exec h with
  | unchanged => simp
  | configured _ id val => simp
  | noteOff hoff => cases (notNote_of_isControlChange hcc).2.symm.trans hoff
  | armed | noteOn | tick | done | reset => cases hcc

/-- No effect reaches the parameters or the events to come. -/
theorem frame_of_effect {i : Instr} {s t : State} (h : Effect s i t) : t.params = s.params ∧ t.inbox = s.inbox := by
  cases h <;> simp

/-- Settles O34: each instruction has one of the effects, and none reaches the two fields. -/
theorem noEventWritesTheParameters : Obligations.NoEventWritesTheParameters := by
  intro i s t h
  exact frame_of_effect (effect_of_exec h)

/-- Settles O35: every other effect leaves the phase alone. -/
theorem onlyTickAndResetWriteThePhase : Obligations.OnlyTickAndResetWriteThePhase := by
  intro i s t h hphase
  cases effect_of_exec h with
  | tick => exact .inl rfl
  | reset => exact .inr rfl
  | unchanged | configured | armed | noteOn | noteOff | done => exact absurd (by simp) hphase

/-- Settles O36: every other effect leaves the stored note alone. -/
theorem onlyNoteOnAndResetWriteTheNote : Obligations.OnlyNoteOnAndResetWriteTheNote := by
  intro i s t h hnote
  cases effect_of_exec h with
  | noteOn ch n v => exact .inl rfl
  | reset => exact .inr rfl
  | unchanged | configured | armed | noteOff | tick | done => exact absurd (by simp) hnote

end Sys2Proof.Proofs.Effects
end

section
/-! An envelope step as a function of the runtime record (rules R86 to R93, R117): the configuration it reads is fixed
while it runs, so an iterate of steps is an iterate of this function. -/

namespace Sys2Proof.Proofs.EnvelopeSteps
open Sys2Proof Sys2Proof.Machine Sys2Proof.Proofs.VcaEnvelope Sys2Proof.Proofs.VcfEnvelope Sys2Proof.Proofs.TickPhases

/-- The VCA runtime after one step. -/
def vcaNext (p : Params) (c : EnvConfig) (r : VcaRuntime) : VcaRuntime :=
  match r.state with
  | .idle => r
  | .attack => vcaAttackNext p c r
  | .decay => if r.currentLevel ≤ r.targetLevel then r else vcaDecayNext r
  | .release => if r.currentLevel ≤ 0 then { r with state := .idle } else vcaReleaseNext r

/-- The VCF runtime after one step, `rest` being the cutoff. -/
def vcfNext (p : Params) (c : VcfConfig) (rest : ℚ) (r : VcfRuntime) : VcfRuntime :=
  match r.state with
  | .idle => r
  | .attack => vcfAttackNext p c rest r
  | .decay => if r.elapsedTicks ≥ r.ticksToTarget then r else vcfDecayNext r
  | .release => if r.elapsedTicks ≥ r.ticksToTarget then { r with state := .idle } else vcfReleaseNext r

theorem vcaStep_vca_eq_next (s : State) : (vcaStep s).vca = vcaNext s.params s.cfgVca s.vca :=
  (vcaStep_vca s).trans rfl

theorem vcfStep_vcf_eq_next (s : State) : (vcfStep s).vcf = vcfNext s.params s.cfgVcf s.glob.vcfCutoff s.vcf :=
  (vcfStep_vcf s).trans rfl

theorem iterate_vcaStep_vca (m : ℕ) (s : State) : (vcaStep^[m] s).vca = (vcaNext s.params s.cfgVca)^[m] s.vca := by
  induction m generalizing s with
  | zero => rfl
  | succ m ih =>
    rw [Function.iterate_succ_apply, ih, vcaStep_params, vcaStep_cfgVca, vcaStep_vca_eq_next,
      Function.iterate_succ_apply]

theorem iterate_vcfStep_vcf (m : ℕ) (s : State) :
    (vcfStep^[m] s).vcf = (vcfNext s.params s.cfgVcf s.glob.vcfCutoff)^[m] s.vcf := by
  induction m generalizing s with
  | zero => rfl
  | succ m ih =>
    rw [Function.iterate_succ_apply, ih, vcfStep_params, vcfStep_cfgVcf, vcfStep_glob, vcfStep_vcf_eq_next,
      Function.iterate_succ_apply]

/-! ### The VCA step by case -/

section
variable {p : Params} {c : EnvConfig} {r : VcaRuntime}

theorem vcaNext_of_idle (h : r.state = .idle) : vcaNext p c r = r := by
  rw [vcaNext, h]

theorem vcaNext_of_attack_below (h : r.state = .attack) (hbelow : r.currentLevel + r.perTickDelta < r.targetLevel) :
    vcaNext p c r = { r with currentLevel := r.currentLevel + r.perTickDelta } := by
  simp only [vcaNext, h, vcaAttackNext_of_below hbelow]

theorem vcaNext_of_attack_reached (h : r.state = .attack)
    (hreached : r.targetLevel ≤ r.currentLevel + r.perTickDelta) :
    vcaNext p c r =
      { state := .decay
        currentLevel := r.currentLevel + r.perTickDelta
        targetLevel := r.targetLevel * c.sustainLevel
        perTickDelta :=
          (r.targetLevel * c.sustainLevel - (r.currentLevel + r.perTickDelta)) * tickPeriodMs p / c.decayTimeMs } := by
  simp only [vcaNext, h, vcaAttackNext_of_reached hreached]

theorem vcaNext_of_decay_plateau (h : r.state = .decay) (hplateau : r.currentLevel ≤ r.targetLevel) :
    vcaNext p c r = r := by
  simp only [vcaNext, h, if_pos hplateau]

theorem vcaNext_of_decay_above (h : r.state = .decay) (habove : r.targetLevel < r.currentLevel) :
    vcaNext p c r = { r with currentLevel := max r.targetLevel (r.currentLevel + r.perTickDelta) } := by
  simp only [vcaNext, h, if_neg habove.not_ge, vcaDecayNext_eq]

theorem vcaNext_of_release_rest (h : r.state = .release) (hrest : r.currentLevel ≤ 0) :
    vcaNext p c r = { r with state := .idle } := by
  simp only [vcaNext, h, if_pos hrest]

theorem vcaNext_of_release_ends (h : r.state = .release) (habove : 0 < r.currentLevel)
    (hends : r.currentLevel + r.perTickDelta ≤ 0) : vcaNext p c r = { r with state := .idle, currentLevel := 0 } := by
  simp only [vcaNext, h, if_neg habove.not_ge, vcaReleaseNext_of_nonpos hends]

theorem vcaNext_of_release_stays (h : r.state = .release) (habove : 0 < r.currentLevel)
    (hstays : 0 < r.currentLevel + r.perTickDelta) :
    vcaNext p c r = { r with currentLevel := r.currentLevel + r.perTickDelta } := by
  simp only [vcaNext, h, if_neg habove.not_ge, vcaReleaseNext_of_pos hstays]

/-- The transitions of rule R80 that a step can make. -/
theorem vcaNext_state_of_ne (h : (vcaNext p c r).state ≠ r.state) :
    (r.state = .attack ∧ (vcaNext p c r).state = .decay) ∨ (r.state = .release ∧ (vcaNext p c r).state = .idle) := by
  cases hstate : r.state with
  | idle => exact absurd (by rw [vcaNext_of_idle hstate]) h
  | attack =>
    rcases lt_or_ge (r.currentLevel + r.perTickDelta) r.targetLevel with hbelow | hreached
    · exact absurd (by rw [vcaNext_of_attack_below hstate hbelow]) h
    · exact .inl ⟨rfl, by rw [vcaNext_of_attack_reached hstate hreached]⟩
  | decay =>
    rcases le_or_gt r.currentLevel r.targetLevel with hplateau | habove
    · exact absurd (by rw [vcaNext_of_decay_plateau hstate hplateau]) h
    · exact absurd (by rw [vcaNext_of_decay_above hstate habove]) h
  | release =>
    rcases le_or_gt r.currentLevel 0 with hrest | habove
    · exact .inr ⟨rfl, by rw [vcaNext_of_release_rest hstate hrest]⟩
    · rcases le_or_gt (r.currentLevel + r.perTickDelta) 0 with hends | hstays
      · exact .inr ⟨rfl, by rw [vcaNext_of_release_ends hstate habove hends]⟩
      · exact absurd (by rw [vcaNext_of_release_stays hstate habove hstays]) h

end

/-! ### The VCF step by case -/

section
variable {p : Params} {c : VcfConfig} {rest : ℚ} {r : VcfRuntime}

theorem vcfNext_of_idle (h : r.state = .idle) : vcfNext p c rest r = r := by
  rw [vcfNext, h]

theorem vcfNext_of_attack_earlier (h : r.state = .attack) (hearlier : r.elapsedTicks + 1 < r.ticksToTarget) :
    vcfNext p c rest r =
      { r with currentLevel := r.currentLevel + r.perTickDelta, elapsedTicks := r.elapsedTicks + 1 } := by
  simp only [vcfNext, h, vcfAttackNext_of_earlier hearlier]

theorem vcfNext_of_attack_last (h : r.state = .attack) (hlast : r.ticksToTarget ≤ r.elapsedTicks + 1) :
    vcfNext p c rest r =
      { state := .decay
        currentLevel := r.currentLevel + r.perTickDelta
        targetLevel := rest + (r.targetLevel - rest) * c.sustainLevel
        perTickDelta :=
          (rest + (r.targetLevel - rest) * c.sustainLevel - (r.currentLevel + r.perTickDelta)) /
            (stepBudget p c.decayTimeMs : ℚ)
        elapsedTicks := 0
        ticksToTarget := stepBudget p c.decayTimeMs
        keyboardShift := r.keyboardShift } := by
  simp only [vcfNext, h, vcfAttackNext_of_last hlast]

theorem vcfNext_of_decay_plateau (h : r.state = .decay) (hplateau : r.ticksToTarget ≤ r.elapsedTicks) :
    vcfNext p c rest r = r := by
  simp only [vcfNext, h, ge_iff_le, if_pos hplateau]

theorem vcfNext_of_decay_earlier (h : r.state = .decay) (hearlier : r.elapsedTicks + 1 < r.ticksToTarget) :
    vcfNext p c rest r =
      { r with currentLevel := r.currentLevel + r.perTickDelta, elapsedTicks := r.elapsedTicks + 1 } := by
  have hwithin : r.elapsedTicks < r.ticksToTarget := Nat.lt_of_succ_lt hearlier
  simp only [vcfNext, h, ge_iff_le, if_neg hwithin.not_ge, vcfDecayNext_of_earlier hearlier]

theorem vcfNext_of_decay_last (h : r.state = .decay) (hlast : r.elapsedTicks + 1 = r.ticksToTarget) :
    vcfNext p c rest r = { r with currentLevel := r.targetLevel, elapsedTicks := r.elapsedTicks + 1 } := by
  have hwithin : r.elapsedTicks < r.ticksToTarget := Nat.lt_of_succ_le hlast.le
  simp only [vcfNext, h, ge_iff_le, if_neg hwithin.not_ge, vcfDecayNext_of_last hlast.ge]

theorem vcfNext_of_release_complete (h : r.state = .release) (hcomplete : r.ticksToTarget ≤ r.elapsedTicks) :
    vcfNext p c rest r = { r with state := .idle } := by
  simp only [vcfNext, h, ge_iff_le, if_pos hcomplete]

theorem vcfNext_of_release_earlier (h : r.state = .release) (hearlier : r.elapsedTicks + 1 < r.ticksToTarget) :
    vcfNext p c rest r =
      { r with currentLevel := r.currentLevel + r.perTickDelta, elapsedTicks := r.elapsedTicks + 1 } := by
  have hwithin : r.elapsedTicks < r.ticksToTarget := Nat.lt_of_succ_lt hearlier
  simp only [vcfNext, h, ge_iff_le, if_neg hwithin.not_ge, vcfReleaseNext_of_earlier hearlier]

theorem vcfNext_of_release_last (h : r.state = .release) (hlast : r.elapsedTicks + 1 = r.ticksToTarget) :
    vcfNext p c rest r =
      { r with state := .idle, currentLevel := r.targetLevel, elapsedTicks := r.elapsedTicks + 1 } := by
  have hwithin : r.elapsedTicks < r.ticksToTarget := Nat.lt_of_succ_le hlast.le
  simp only [vcfNext, h, ge_iff_le, if_neg hwithin.not_ge, vcfReleaseNext_of_last hlast.ge]

/-- A leg's step is within its budget, is its last, or comes after it. -/
theorem budget_cases (r : VcfRuntime) :
    r.elapsedTicks + 1 < r.ticksToTarget ∨ r.elapsedTicks + 1 = r.ticksToTarget ∨
      r.ticksToTarget ≤ r.elapsedTicks := by
  omega

/-- The transitions of rule R80 that a step can make. -/
theorem vcfNext_state_of_ne (h : (vcfNext p c rest r).state ≠ r.state) :
    (r.state = .attack ∧ (vcfNext p c rest r).state = .decay) ∨
      (r.state = .release ∧ (vcfNext p c rest r).state = .idle) := by
  cases hstate : r.state with
  | idle => exact absurd (by rw [vcfNext_of_idle hstate]) h
  | attack =>
    rcases Nat.lt_or_ge (r.elapsedTicks + 1) r.ticksToTarget with hearlier | hlast
    · exact absurd (by rw [vcfNext_of_attack_earlier hstate hearlier]) h
    · exact .inl ⟨rfl, by rw [vcfNext_of_attack_last hstate hlast]⟩
  | decay =>
    rcases budget_cases r with hearlier | hlast | hplateau
    · exact absurd (by rw [vcfNext_of_decay_earlier hstate hearlier]) h
    · exact absurd (by rw [vcfNext_of_decay_last hstate hlast]) h
    · exact absurd (by rw [vcfNext_of_decay_plateau hstate hplateau]) h
  | release =>
    rcases budget_cases r with hearlier | hlast | hcomplete
    · exact absurd (by rw [vcfNext_of_release_earlier hstate hearlier]) h
    · exact .inr ⟨rfl, by rw [vcfNext_of_release_last hstate hlast]⟩
    · exact .inr ⟨rfl, by rw [vcfNext_of_release_complete hstate hcomplete]⟩

end

end Sys2Proof.Proofs.EnvelopeSteps
end

section
/-! Rules of the whole machine (rules R23, R24, R35, R37, R52, R53, R76 to R80, R122): which effects reach the gate,
the fault counter, the envelope states and the trace, and what no effect reads. -/

namespace Sys2Proof.Proofs.MachineRules
open Sys2Proof Sys2Proof.Machine Sys2Proof.Proofs.DecodeRows Sys2Proof.Proofs.ParameterRows
  Sys2Proof.Proofs.EnvelopeTriggers Sys2Proof.Proofs.DrumMessages Sys2Proof.Proofs.TransportGate
  Sys2Proof.Proofs.TickOutput Sys2Proof.Proofs.TickScheduler Sys2Proof.Proofs.TickPhases Sys2Proof.Proofs.Effects
  Sys2Proof.Proofs.EnvelopeSteps

/-! ### The gate and the fault counter -/

/-- A tick never completes a transfer: it finds the gate busy and leaves it so, with the same bank, and issues trigger
events only (rules R76, R79). -/
theorem tick_of_busy {s : State} (h : s.busy = true) :
    (tick s).busy = true ∧ (tick s).bankSel = s.bankSel ∧ (tick s).trace = s.trace ++ drumEvents s ∧
      ((tick s).overlapFaults = s.overlapFaults ∨
        (tick s).overlapFaults = min (s.overlapFaults + 1) (2 ^ s.params.faultCtrWidth - 1)) := by
  rcases tick_silent_or_sent s with ⟨hbusy, hsel, hfaults, htrace⟩ | ⟨out, -, value, hbusy, -, hrefused⟩
  · exact ⟨hbusy.trans h, hsel, htrace, .inl hfaults⟩
  · obtain ⟨hsel, hfaults, htrace⟩ := hrefused h
    exact ⟨hbusy, hsel, htrace, .inr hfaults⟩

/-- A tick that finds the gate free counts no fault, and sends at most one word, which then holds the gate (rule
R76). -/
theorem tick_of_free {s : State} (h : s.busy = false) :
    (tick s).overlapFaults = s.overlapFaults ∧
      (((tick s).busy = false ∧ (tick s).bankSel = s.bankSel ∧ (tick s).trace = s.trace ++ drumEvents s) ∨
        ∃ out ∈ blockOutputs, ∃ word, (tick s).busy = true ∧
          (tick s).bankSel = some (resolve s.params out).bank ∧
          (tick s).trace = s.trace ++ drumEvents s ++ [.transmit (resolve s.params out).bank word]) := by
  rcases tick_silent_or_sent s with ⟨hbusy, hsel, hfaults, htrace⟩ | ⟨out, hout, value, hbusy, hsent, -⟩
  · exact ⟨hfaults, .inl ⟨hbusy.trans h, hsel, htrace⟩⟩
  · obtain ⟨hsel, hfaults, htrace⟩ := hsent h
    exact ⟨hfaults, .inr ⟨out, hout, _, hbusy, hsel, htrace⟩⟩

/-- Settles O37: a tick keeps a busy gate busy, and no other effect but the two named writes the flag. -/
theorem onlyDoneAndResetFreeTheGate : Obligations.OnlyDoneAndResetFreeTheGate := by
  intro i s t h hbusy hfree
  cases effect_of_exec h with
  | done b => exact .inl rfl
  | reset => exact .inr rfl
  | tick => cases (tick_of_busy hbusy).1.symm.trans hfree
  | unchanged | configured | armed | noteOn | noteOff =>
    simp [hbusy] at hfree

/-- Settles O38: the counter moves in a tick alone, through a busy gate, and a saturated one stays where it is. -/
theorem faultCounterIsSticky : Obligations.FaultCounterIsSticky := by
  intro i s t h hreset hrange
  cases effect_of_exec h with
  | reset => exact absurd rfl hreset
  | unchanged | configured | armed | noteOn | noteOff | done => exact .inl (by simp)
  | tick =>
    cases hbusy : s.busy with
    | false => exact .inl (tick_of_free hbusy).1
    | true =>
      obtain ⟨-, -, -, hsame | hcounted⟩ := tick_of_busy hbusy
      · exact .inl hsame
      · rcases hrange.eq_or_lt with hmax | hbelow
        · exact .inl (by rw [hcounted, ← hmax, min_eq_right (Nat.le_succ _)])
        · exact .inr ⟨rfl, rfl, by rw [hcounted, min_eq_left hbelow], hbelow⟩

/-! ### The envelope states -/

theorem tick_vca_state_of_ne {s : State} (h : (tick s).vca.state ≠ s.vca.state) :
    s.p = 2 ∧ ((s.vca.state = .attack ∧ (tick s).vca.state = .decay) ∨
      (s.vca.state = .release ∧ (tick s).vca.state = .idle)) := by
  have hphase : s.p = 2 := by
    by_contra hother
    exact h (by rw [tick_vca_of_otherPhase hother])
  rw [tick_vca_of_vcaPhase hphase, vcaStep_vca_eq_next] at h ⊢
  exact ⟨hphase, vcaNext_state_of_ne h⟩

theorem tick_vcf_state_of_ne {s : State} (h : (tick s).vcf.state ≠ s.vcf.state) :
    s.p = 3 ∧ ((s.vcf.state = .attack ∧ (tick s).vcf.state = .decay) ∨
      (s.vcf.state = .release ∧ (tick s).vcf.state = .idle)) := by
  have hphase : s.p = 3 := by
    by_contra hother
    exact h (by rw [tick_vcf_of_otherPhase hother])
  rw [tick_vcf_of_vcfPhase hphase, vcfStep_vcf_eq_next] at h ⊢
  exact ⟨hphase, vcfNext_state_of_ne h⟩

theorem noteOn_states (n v : Byte) (s : State) :
    (noteOn n v s).vca.state = .attack ∧ (noteOn n v s).vcf.state = .attack := by
  rw [noteOn_eq]
  exact ⟨rfl, rfl⟩

theorem noteOff_states (s : State) : (noteOff s).vca.state = .release ∧ (noteOff s).vcf.state = .release := by
  rw [noteOff_eq]
  exact ⟨rfl, rfl⟩

theorem isNoteOn_of_isNoteOff {i : Instr} (h : isNoteOff i = true) : isNoteOn i = false := by
  cases i using rowCases with
  | noteOn ch note vel => cases h
  | parameter id ch cc val => exact isNoteOn_ccInstr id ch cc val
  | drumNoteOn | noteOnVel0Off | noteOff | controlChange | ignored | tick | done | reset => rfl

/-- Settles O39: the two triggers set both states, a tick makes the transitions of its phase's step, and no other
effect reaches a state. -/
theorem envelopesMoveOnlyAsTheTransitionTableSays : Obligations.EnvelopesMoveOnlyAsTheTransitionTableSays := by
  intro i s t h hreset
  cases effect_of_exec h with
  | reset => exact absurd rfl hreset
  | noteOn ch n v =>
    exact ⟨fun _ => noteOn_states n v s, fun hoff => (nomatch hoff), fun hon => (nomatch hon), fun hon => (nomatch hon)⟩
  | noteOff hoff =>
    refine ⟨fun hon => ?_, fun _ => noteOff_states s, fun _ hnot => ?_, fun _ hnot => ?_⟩
    · cases (isNoteOn_of_isNoteOff hoff).symm.trans hon
    · cases hoff.symm.trans hnot
    · cases hoff.symm.trans hnot
  | tick =>
    exact ⟨fun hon => (nomatch hon), fun hoff => (nomatch hoff), fun _ _ hne => ⟨rfl, tick_vca_state_of_ne hne⟩,
      fun _ _ hne => ⟨rfl, tick_vcf_state_of_ne hne⟩⟩
  | unchanged hon hoff => simp [hon, hoff]
  | configured hcc id val => simp [notNote_of_isControlChange hcc]
  | armed | done => simp [isNoteOn, isNoteOff]

theorem exists_setTrigger_of_mem {s : State} {x : OutEvent} (h : x ∈ drumEvents s) :
    ∃ v l, x = OutEvent.setTrigger v l := by
  obtain ⟨v, -, rfl⟩ := eq_setTrigger_of_mem_drumEvents h
  exact ⟨v, _, rfl⟩

/-- Settles O40: only a tick transmits, once, after the trigger events of its countdown. -/
theorem transmitOnlyThroughAFreeGate : Obligations.TransmitOnlyThroughAFreeGate := by
  intro i s t h
  cases effect_of_exec h with
  | @armed ch note vel v hmapped =>
    exact ⟨[.setTrigger v .activeLvl], [], by simp, fun x hx => ⟨_, _, List.mem_singleton.mp hx⟩, .inl rfl⟩
  | unchanged | configured | noteOn | noteOff | done | reset => exact ⟨[], [], by simp⟩
  | tick =>
    have htriggers : ∀ x ∈ drumEvents s, ∃ v l, x = .setTrigger v l := fun x hx => exists_setTrigger_of_mem hx
    cases hbusy : s.busy with
    | true =>
      obtain ⟨-, -, htrace, -⟩ := tick_of_busy hbusy
      exact ⟨drumEvents s, [], by rw [htrace, List.append_nil], htriggers, .inl rfl⟩
    | false =>
      obtain ⟨-, ⟨-, -, htrace⟩ | ⟨out, -, word, hheld, hsel, htrace⟩⟩ := tick_of_free hbusy
      · exact ⟨drumEvents s, [], by rw [htrace, List.append_nil], htriggers, .inl rfl⟩
      · exact ⟨drumEvents s, _, htrace, htriggers, .inr ⟨_, word, rfl, rfl, rfl, hheld, hsel⟩⟩

/-! ### What no operation reads -/

section
variable (s : State)

theorem drumStep_eraseUnread (v : Nat) : drumStep (eraseUnread s) v = eraseUnread (drumStep s v) := by
  have hcount : drumCountAt (eraseUnread s) v = drumCountAt s v := rfl
  simp only [drumStep, hcount]
  split_ifs <;> rfl

theorem drumCountdown_eraseUnread : drumCountdown (eraseUnread s) = eraseUnread (drumCountdown s) :=
  List.foldl_hom eraseUnread fun u v => drumStep_eraseUnread u v

theorem emit_eraseUnread (out : LogicalOutput) (value : ℤ) :
    emit out value (eraseUnread s) = eraseUnread (emit out value s) := by
  cases hbusy : s.busy with
  | false => rw [emit_free hbusy, emit_free (s := eraseUnread s) hbusy]; rfl
  | true => rw [emit_busy hbusy, emit_busy (s := eraseUnread s) hbusy]; rfl

theorem vcaStep_eraseUnread : vcaStep (eraseUnread s) = eraseUnread (vcaStep s) := by
  have hread : (eraseUnread s).vca = s.vca := rfl
  have hset (r : VcaRuntime) (u : State) : (eraseUnread u).setVca r = eraseUnread (u.setVca r) := rfl
  cases hstate : s.vca.state with
  | idle => simp only [vcaStep, hread, hstate, vcaStepIdle]
  | attack =>
    simp only [vcaStep, hread, hstate, vcaStepAttack, emitVca, emit_eraseUnread]
    exact hset _ _
  | decay =>
    simp only [vcaStep, hread, hstate, vcaStepDecay, hset, emitVca, emit_eraseUnread]
    split_ifs <;> rfl
  | release =>
    simp only [vcaStep, hread, hstate, vcaStepRelease, hset, emitVca, emit_eraseUnread]
    split_ifs <;> rfl

theorem vcfStep_eraseUnread : vcfStep (eraseUnread s) = eraseUnread (vcfStep s) := by
  have hread : (eraseUnread s).vcf = s.vcf := rfl
  have hset (r : VcfRuntime) (u : State) : (eraseUnread u).setVcf r = eraseUnread (u.setVcf r) := rfl
  cases hstate : s.vcf.state with
  | idle => simp only [vcfStep, hread, hstate, vcfStepIdle]
  | attack =>
    simp only [vcfStep, hread, hstate, vcfStepAttack, emitVcf, emit_eraseUnread]
    exact hset _ _
  | decay =>
    simp only [vcfStep, hread, hstate, vcfStepDecay, hset, emitVcf, emit_eraseUnread]
    split_ifs <;> rfl
  | release =>
    simp only [vcfStep, hread, hstate, vcfStepRelease, hset, emitVcf, emit_eraseUnread]
    split_ifs <;> rfl

theorem slowUpdate_eraseUnread (phase : Nat) : slowUpdate phase (eraseUnread s) = eraseUnread (slowUpdate phase s) := by
  match phase with
  | 0 => exact emit_eraseUnread s _ _
  | 1 => exact emit_eraseUnread s _ _
  | 2 => exact vcaStep_eraseUnread s
  | 3 => exact vcfStep_eraseUnread s
  | _ + 4 => rfl

theorem tick_eraseUnread : tick (eraseUnread s) = eraseUnread (tick s) := by
  rw [tick, drumCountdown_eraseUnread, slowUpdate_eraseUnread]
  rfl

theorem transferDone_eraseUnread (b : Byte) : transferDone b (eraseUnread s) = eraseUnread (transferDone b s) := by
  cases hbusy : s.busy with
  | false => rw [transferDone_of_free hbusy, transferDone_of_free (s := eraseUnread s) hbusy]
  | true => rw [transferDone_of_busy hbusy, transferDone_of_busy (s := eraseUnread s) hbusy]; rfl

/-- A register write may set an unread register, so the erased states are what agrees after it. -/
theorem eraseUnread_writeParam (id : ParamId) (val : Byte) :
    eraseUnread (writeParam id val (eraseUnread s)) = eraseUnread (writeParam id val s) := by
  cases id <;> rfl

theorem eraseUnread_paramUpdate (cc val : Byte) :
    eraseUnread (paramUpdate cc val (eraseUnread s)) = eraseUnread (paramUpdate cc val s) := by
  cases h : ccParam s.params cc with
  | none => rw [paramUpdate_of_unmapped h, paramUpdate_of_unmapped (s := eraseUnread s) h]; rfl
  | some id =>
    rw [paramUpdate_of_mapped h, paramUpdate_of_mapped (s := eraseUnread s) h, eraseUnread_writeParam]

theorem noteOn_eraseUnread (n v : Byte) : noteOn n v (eraseUnread s) = eraseUnread (noteOn n v s) := by
  rw [noteOn_eq, noteOn_eq]
  rfl

theorem noteOff_eraseUnread : noteOff (eraseUnread s) = eraseUnread (noteOff s) := by
  rw [noteOff_eq, noteOff_eq]
  rfl

end

theorem eraseUnread_idem (s : State) : eraseUnread (eraseUnread s) = eraseUnread s := rfl

/-- Erasing the unread registers before an instruction changes at most those registers after it. -/
theorem exists_exec_eraseUnread (i : Instr) (s : State) :
    ∃ t u, exec i s = .next t ∧ exec i (eraseUnread s) = .next u ∧ eraseUnread u = eraseUnread t := by
  cases i using rowCases with
  | drumNoteOn ch note vel =>
    cases h : drumVoice s.params note with
    | none =>
      exact ⟨_, _, exec_drumNoteOn_of_unmapped h ch vel, exec_drumNoteOn_of_unmapped (s := eraseUnread s) h ch vel, rfl⟩
    | some v =>
      exact ⟨_, _, exec_drumNoteOn_of_mapped h ch vel, exec_drumNoteOn_of_mapped (s := eraseUnread s) h ch vel, rfl⟩
  | noteOnVel0Off ch note =>
    exact ⟨_, _, exec_noteOnVel0Off ch note s, exec_noteOnVel0Off ch note _,
      by rw [noteOff_eraseUnread, eraseUnread_idem]⟩
  | noteOn ch note vel =>
    exact ⟨_, _, exec_noteOn ch note vel s, exec_noteOn ch note vel _, by rw [noteOn_eraseUnread, eraseUnread_idem]⟩
  | noteOff ch note vel =>
    exact ⟨_, _, exec_noteOff ch note vel s, exec_noteOff ch note vel _, by rw [noteOff_eraseUnread, eraseUnread_idem]⟩
  | controlChange ch cc val =>
    exact ⟨_, _, exec_controlChange ch cc val s, exec_controlChange ch cc val _, eraseUnread_paramUpdate s cc val⟩
  | parameter id ch cc val =>
    exact ⟨_, _, exec_ccInstr id ch cc val s, exec_ccInstr id ch cc val _, eraseUnread_writeParam s id val⟩
  | ignored kind ch d1 d2 => exact ⟨_, _, exec_ignored kind ch d1 d2 s, exec_ignored kind ch d1 d2 _, rfl⟩
  | tick => exact ⟨_, _, exec_tick s, exec_tick _, by rw [tick_eraseUnread, eraseUnread_idem]⟩
  | done b => exact ⟨_, _, exec_done b s, exec_done b _, by rw [transferDone_eraseUnread, eraseUnread_idem]⟩
  | reset => exact ⟨_, _, exec_reset s, exec_reset _, rfl⟩

/-- What an instruction leaves, but for the unread registers, is what it leaves of the erased state. -/
theorem eraseUnread_of_exec {i : Instr} {s t u : State} (ht : exec i s = .next t)
    (hu : exec i (eraseUnread s) = .next u) : eraseUnread t = eraseUnread u := by
  obtain ⟨t', u', ht', hu', heq⟩ := exists_exec_eraseUnread i s
  obtain rfl : t' = t := Host.Outcome.next.inj (ht'.symm.trans ht)
  obtain rfl : u' = u := Host.Outcome.next.inj (hu'.symm.trans hu)
  exact heq.symm

/-- Settles O41: both answers agree with the one of the erased state, which the two states share. -/
theorem unreadRegistersReachNothing : Obligations.UnreadRegistersReachNothing := by
  intro i s s' t t' herase h h'
  obtain ⟨-, u, -, hu, -⟩ := exists_exec_eraseUnread i s
  rw [eraseUnread_of_exec h hu, eraseUnread_of_exec h' (herase ▸ hu)]

end Sys2Proof.Proofs.MachineRules
end

section
/-! Construction (rules R9, R10, R43, R72, R121, R123): each check is the constraint group it tests, so a set is built
exactly when it meets all four groups, and else fails with the first it breaks. -/

namespace Sys2Proof.Proofs.Construction
open Sys2Proof Sys2Proof.Machine Sys2Proof.Proofs.Memory Sys2Proof.Proofs.TickScheduler Sys2Proof.Proofs.TickPhases

/-! ### The checks and the constraints -/

/-- A test of the visible pairs of a map, hidden ones skipped, is a test of every lookup (log entry 2). -/
theorem all_lookup_iff {α β : Type} [BEq α] [LawfulBEq α] (l : List (α × β)) (test : β → Bool) :
    (l.all fun e => (l.lookup e.1).all test) = true ↔ ∀ k v, l.lookup k = some v → test v = true := by
  rw [List.all_eq_true]
  constructor
  · intro hall k v hlookup
    obtain ⟨l₁, l₂, hl, -⟩ := List.lookup_eq_some_iff.mp hlookup
    have hpair := hall (k, v) (by simp [hl])
    rwa [hlookup, Option.all_some] at hpair
  · intro hlookups e _
    cases hlookup : l.lookup e.1 with
    | none => rfl
    | some v => exact hlookups e.1 v hlookup

section
variable {p : Params}

theorem resetTimesOk_iff : resetTimesOk p = true ↔ ResetTimesSound p := by
  simp only [resetTimesOk, timesPositive, Bool.and_eq_true, decide_eq_true_eq]
  exact ⟨fun ⟨⟨⟨h1, h2⟩, h3⟩, ⟨h4, h5⟩, h6⟩ => ⟨h1, h2, h3, h4, h5, h6⟩,
    fun ⟨h1, h2, h3, h4, h5, h6⟩ => ⟨⟨⟨h1, h2⟩, h3⟩, ⟨h4, h5⟩, h6⟩⟩

theorem destOk_iff {d : Dest} : destOk p d = true ↔ d.bank < p.nBanks ∧ (d.sub = 0 ∨ d.sub = 1) := by
  simp only [destOk, Bool.and_eq_true, decide_eq_true_eq, Nat.le_one_iff_eq_zero_or_eq_one]

theorem addrMapOk_iff : addrMapOk p = true ↔ AddrMapSound p := by
  rw [addrMapOk, Bool.and_eq_true, all_lookup_iff]
  simp only [destOk_iff, List.all_eq_true, Option.isSome_iff_exists]
  exact ⟨fun ⟨htotal, hrange⟩ => ⟨htotal, hrange⟩, fun ⟨htotal, hrange⟩ => ⟨htotal, hrange⟩⟩

theorem tablesOk_iff : tablesOk p = true ↔ NoteTableSound p.tableA ∧ NoteTableSound p.tableB := by
  rw [tablesOk, Bool.and_eq_true, tableOk_iff, tableOk_iff]

theorem scalarsOk_iff : scalarsOk p = true ↔ ScalarsSound p := by
  simp only [scalarsOk, Bool.and_eq_true, decide_eq_true_eq]
  constructor
  · rintro ⟨⟨⟨⟨⟨⟨⟨⟨⟨⟨⟨h1, h2⟩, h3⟩, h4⟩, h5⟩, h6⟩, h7⟩, h8⟩, h9⟩, h10⟩, h11⟩, h12⟩
    exact ⟨h1, h2, h3, h4, h5, h6, h7, h8, h9, h10, h11, h12⟩
  · rintro ⟨h1, h2, h3, h4, h5, h6, h7, h8, h9, h10, h11, h12⟩
    exact ⟨⟨⟨⟨⟨⟨⟨⟨⟨⟨⟨h1, h2⟩, h3⟩, h4⟩, h5⟩, h6⟩, h7⟩, h8⟩, h9⟩, h10⟩, h11⟩, h12⟩

theorem inRange_iff {q hi : ℚ} : inRange q hi = true ↔ 0 ≤ q ∧ q ≤ hi := by
  simp only [inRange, Bool.and_eq_true, decide_eq_true_eq]

theorem resetLevelsOk_iff : resetLevelsOk p = true ↔ ResetLevelsSound p := by
  simp only [resetLevelsOk, unitLevelsInRange, Bool.and_eq_true, inRange_iff]
  constructor
  · rintro ⟨⟨⟨⟨⟨⟨h1, h2⟩, h3, h4⟩, h5⟩, h6⟩, h7⟩, h8⟩
    exact ⟨h1, h2, h3, h4, h5, h6, h7, h8⟩
  · rintro ⟨h1, h2, h3, h4, h5, h6, h7, h8⟩
    exact ⟨⟨⟨⟨⟨⟨h1, h2⟩, h3, h4⟩, h5⟩, h6⟩, h7⟩, h8⟩

theorem drumVoicesOk_iff : drumVoicesOk p = true ↔ ∀ n v, p.drumNoteMap.lookup n = some v → v < p.nDrum := by
  simp only [drumVoicesOk, drumVoice, all_lookup_iff, decide_eq_true_eq]

theorem paramsOk_iff : paramsOk p = true ↔ ParamsSound p := by
  simp only [paramsOk, Bool.and_eq_true, scalarsOk_iff, drumVoicesOk_iff, resetLevelsOk_iff]
  exact ⟨fun ⟨⟨hscalars, hvoices⟩, hlevels⟩ => ⟨hscalars, hvoices, hlevels⟩,
    fun ⟨hscalars, hvoices, hlevels⟩ => ⟨⟨hscalars, hvoices⟩, hlevels⟩⟩

/-- A block exists exactly for a set that meets the four groups of constraints. -/
theorem defect_eq_none_iff_sound :
    defect p = none ↔ ResetTimesSound p ∧ AddrMapSound p ∧ (NoteTableSound p.tableA ∧ NoteTableSound p.tableB) ∧
      ParamsSound p := by
  rw [defect_eq_none_iff, resetTimesOk_iff, addrMapOk_iff, tablesOk_iff, paramsOk_iff]

/-! ### The first defect -/

theorem defect_eq_zeroTime (htimes : ¬ ResetTimesSound p) : defect p = some .zeroTime := by
  have h1 : resetTimesOk p = false := Bool.eq_false_iff.mpr (mt resetTimesOk_iff.mp htimes)
  simp [defect, h1]

theorem defect_eq_addrMap (htimes : ResetTimesSound p) (hmap : ¬ AddrMapSound p) : defect p = some .addrMap := by
  have h1 : resetTimesOk p = true := resetTimesOk_iff.mpr htimes
  have h2 : addrMapOk p = false := Bool.eq_false_iff.mpr (mt addrMapOk_iff.mp hmap)
  simp [defect, h1, h2]

theorem defect_eq_table (htimes : ResetTimesSound p) (hmap : AddrMapSound p)
    (htables : ¬ (NoteTableSound p.tableA ∧ NoteTableSound p.tableB)) : defect p = some .table := by
  have h1 : resetTimesOk p = true := resetTimesOk_iff.mpr htimes
  have h2 : addrMapOk p = true := addrMapOk_iff.mpr hmap
  have h3 : tablesOk p = false := Bool.eq_false_iff.mpr (mt tablesOk_iff.mp htables)
  simp [defect, h1, h2, h3]

theorem defect_eq_param (htimes : ResetTimesSound p) (hmap : AddrMapSound p)
    (htables : NoteTableSound p.tableA ∧ NoteTableSound p.tableB) (hparams : ¬ ParamsSound p) :
    defect p = some .param := by
  have h1 : resetTimesOk p = true := resetTimesOk_iff.mpr htimes
  have h2 : addrMapOk p = true := addrMapOk_iff.mpr hmap
  have h3 : tablesOk p = true := tablesOk_iff.mpr htables
  have h4 : paramsOk p = false := Bool.eq_false_iff.mpr (mt paramsOk_iff.mp hparams)
  simp [defect, h1, h2, h3, h4]

theorem construct_of_defect {d : Defect} (h : defect p = some d) : construct p = .error d := by
  rw [construct, h]

/-! ### The outputs of a built block -/

/-- Each output the block emits to resolves to an existing destination (rule R72). -/
theorem resolve_of_sound (h : AddrMapSound p) {out : LogicalOutput} (hout : out ∈ blockOutputs) :
    (resolve p out).bank < p.nBanks ∧ (resolve p out).sub ≤ 1 := by
  obtain ⟨d, hd⟩ := h.total out hout
  obtain ⟨hbank, hsub⟩ := h.inRange out d hd
  rw [resolve, hd, Option.getD_some]
  exact ⟨hbank, by omega⟩

end

/-- The state construction answers is one that RESET leaves as it is (rule R139). -/
theorem setBlock_blockReset_resetState (p : Params) :
    (resetState p).setBlock (blockReset (resetState p).params) = resetState p := rfl

/-- Settles O45: the four checks are the four groups, tested in the order of their codes. -/
theorem constructionRejectsDefects : Obligations.ConstructionRejectsDefects := by
  refine ⟨⟨rfl, rfl, rfl, rfl⟩, fun p => ⟨fun htimes hmap hA hB hparams => ?_,
    fun htimes => construct_of_defect (defect_eq_zeroTime htimes),
    fun htimes hmap => construct_of_defect (defect_eq_addrMap htimes hmap),
    fun htimes hmap htables => construct_of_defect (defect_eq_table htimes hmap htables),
    fun htimes hmap hA hB hparams => construct_of_defect (defect_eq_param htimes hmap ⟨hA, hB⟩ hparams),
    fun s hbuilt => ?_⟩⟩
  · have hsound : defect p = none := defect_eq_none_iff_sound.mpr ⟨htimes, hmap, ⟨hA, hB⟩, hparams⟩
    refine ⟨resetState p, construct_eq_ok_iff.mpr ⟨hsound, rfl⟩, rfl, rfl, rfl, ?_⟩
    rw [exec_reset, setBlock_blockReset_resetState]
  · obtain ⟨hnone, -⟩ := construct_eq_ok_iff.mp hbuilt
    obtain ⟨htimes, hmap, ⟨hA, hB⟩, hparams⟩ := defect_eq_none_iff_sound.mp hnone
    exact ⟨htimes, hmap, hA, hB, hparams, fun out hout => resolve_of_sound hmap hout⟩

end Sys2Proof.Proofs.Construction
end

section
/-! The invariant of a built block (rules R18 to R37, R99, R138): each effect keeps each of its parts, and the reset
record meets all of them. A part that an effect does not write is carried over by the fields it reads. -/

namespace Sys2Proof.Proofs.Invariant
open Sys2Proof Sys2Proof.Machine Sys2Proof.Proofs.Memory Sys2Proof.Proofs.EnvelopeTriggers
  Sys2Proof.Proofs.TickOutput Sys2Proof.Proofs.TickScheduler Sys2Proof.Proofs.TickPhases Sys2Proof.Proofs.Effects
  Sys2Proof.Proofs.EnvelopeSteps Sys2Proof.Proofs.MachineRules Sys2Proof.Proofs.Construction

/-! ### The fields each part reads -/

section
variable {s t : State}

theorem configOk_of_eq (h : ConfigOk s) (hvca : t.cfgVca = s.cfgVca := by simp) (hvcf : t.cfgVcf = s.cfgVcf := by simp)
    (hglob : t.glob = s.glob := by simp) (haux : t.aux = s.aux := by simp)
    (hparams : t.params = s.params := by simp) : ConfigOk t := by
  obtain ⟨h1, h2, h3, h4, h5, h6, h7⟩ := h
  constructor <;> simpa only [hvca, hvcf, hglob, haux, hparams]

theorem drumOk_of_eq (h : DrumOk s) (hcount : t.drumCount = s.drumCount := by simp)
    (htrig : t.trig = s.trig := by simp) (hparams : t.params = s.params := by simp) : DrumOk t := by
  obtain ⟨h1, h2, h3, h4⟩ := h
  constructor <;> simpa only [hcount, htrig, hparams]

theorem gateOk_of_eq (h : GateOk s) (hbusy : t.busy = s.busy := by simp) (hsel : t.bankSel = s.bankSel := by simp)
    (hfaults : t.overlapFaults = s.overlapFaults := by simp) (hparams : t.params = s.params := by simp) : GateOk t := by
  obtain ⟨h1, h2, h3⟩ := h
  constructor <;> simpa only [hbusy, hsel, hfaults, hparams]

theorem envelopeOk_of_eq (h : EnvelopeOk s) (hvca : t.vca = s.vca := by simp) (hvcf : t.vcf = s.vcf := by simp) :
    EnvelopeOk t := by
  obtain ⟨h1, h2, h3, h4, h5, h6⟩ := h
  constructor <;> simpa only [hvca, hvcf]

end

theorem inv_setInbox {s : State} (h : Inv s) (es : List EventWord) : Inv (s.setInbox es) where
  built := h.built
  config := configOk_of_eq h.config
  drums := drumOk_of_eq h.drums
  gate := gateOk_of_eq h.gate
  envelopes := envelopeOk_of_eq h.envelopes
  phase := h.phase
  traceOk := h.traceOk

/-! ### Register writes -/

theorem timedValue_pos {p : Params} (h : 0 < p.maxTime) (val : Byte) : 0 < timedValue p val := by
  rw [timedValue]
  positivity

theorem unitValue_mem_unit (val : Byte) : 0 ≤ unitValue val ∧ unitValue val ≤ 1 := clamp127_div_mem_unit val

theorem scaledValue_mem_range {hi : ℚ} (h : 0 ≤ hi) (val : Byte) :
    0 ≤ scaledValue hi val ∧ scaledValue hi val ≤ hi := by
  obtain ⟨hnonneg, hle⟩ := clamp127_div_mem_unit val
  exact ⟨mul_nonneg hnonneg h, mul_le_of_le_one_left h hle⟩

theorem clamp127_le (val : Byte) : clamp127 val ≤ 127 := min_le_right _ _

/-- Every class of parameter writes a value in the range of its register (rules R106 to R109). -/
theorem configOk_writeParam {s : State} (hscalars : ScalarsSound s.params) (h : ConfigOk s) (id : ParamId)
    (val : Byte) : ConfigOk (writeParam id val s) := by
  have htime := timedValue_pos hscalars.maxTime val
  have hunit := unitValue_mem_unit val
  have hraw := clamp127_le val
  obtain ⟨hwave, hoct, hdet, hsync, horder⟩ := h.auxRange
  cases id with
  | vcaAttack => exact { h with vcaOk := { h.vcaOk with attackPos := htime } }
  | vcaDecay => exact { h with vcaOk := { h.vcaOk with decayPos := htime } }
  | vcaSustain => exact { h with vcaOk := { h.vcaOk with sustainUnit := hunit } }
  | vcaRelease => exact { h with vcaOk := { h.vcaOk with releasePos := htime } }
  | vcfAttack => exact { h with vcfOk := { h.vcfOk with attackPos := htime } }
  | vcfDecay => exact { h with vcfOk := { h.vcfOk with decayPos := htime } }
  | vcfSustain => exact { h with vcfOk := { h.vcfOk with sustainUnit := hunit } }
  | vcfRelease => exact { h with vcfOk := { h.vcfOk with releasePos := htime } }
  | vcaVelSens => exact { h with vcaOk := { h.vcaOk with velSensUnit := hunit } }
  | vcfVelSens => exact { h with vcfOk := { h.vcfOk with velSensUnit := hunit } }
  | kbdTracking => exact { h with trackingUnit := hunit }
  | envAmount => exact { h with amountRange := scaledValue_mem_range hscalars.maxEnvAmount val }
  | cutoff => exact { h with cutoffRange := scaledValue_mem_range hscalars.maxCutoff val }
  | resonance => exact { h with resonanceRange := scaledValue_mem_range hscalars.maxResonance val }
  | waveform => exact { h with auxRange := ⟨hraw, hoct, hdet, hsync, horder⟩ }
  | octave => exact { h with auxRange := ⟨hwave, hraw, hdet, hsync, horder⟩ }
  | detune => exact { h with auxRange := ⟨hwave, hoct, hraw, hsync, horder⟩ }
  | sync => exact { h with auxRange := ⟨hwave, hoct, hdet, hraw, horder⟩ }
  | filterOrder => exact { h with auxRange := ⟨hwave, hoct, hdet, hsync, hraw⟩ }

/-! ### The drums -/

theorem drumOk_armDrum {s : State} (hpulse : 1 ≤ s.params.drumPulse) (h : DrumOk s) (v : Nat) :
    DrumOk (armDrum v s) where
  countLength := by simpa using h.countLength
  trigLength := by simpa using h.trigLength
  countRange := by
    intro n hn
    rw [armDrum_drumCount] at hn
    rw [armDrum_params]
    exact (List.mem_or_eq_of_mem_set hn).elim (h.countRange n) fun heq => heq.le
  lineActive := by
    intro w hw
    rw [armDrum_params] at hw
    rw [armDrum_trig, armDrum_drumCount]
    have hcount : w < s.drumCount.length := by rwa [h.countLength]
    have hline : w < s.trig.length := by rwa [h.trigLength]
    by_cases heq : v = w
    · subst heq
      rw [List.getElem?_set_self hline, List.getElem?_set_self hcount]
      simp only [true_iff, ne_eq, Option.some_inj]
      omega
    · rw [List.getElem?_set_ne heq, List.getElem?_set_ne heq]
      exact h.lineActive w hw

theorem drumOk_tick {s : State} (h : DrumOk s) : DrumOk (tick s) where
  countLength := by simpa using h.countLength
  trigLength := by simpa using h.trigLength
  countRange := by
    intro n hn
    obtain ⟨v, hv, hget⟩ := List.mem_iff_getElem.mp hn
    have hold : v < s.drumCount.length := by simpa using hv
    have hnext := tick_drumCount_getElem? h.countLength (List.getElem?_eq_getElem hold)
    rw [List.getElem?_eq_getElem hv, hget, Option.some_inj] at hnext
    have hrange := h.countRange _ (List.getElem_mem hold)
    rw [tick_params]
    omega
  lineActive := by
    intro v hv
    rw [tick_params] at hv
    have hold : v < s.drumCount.length := by rwa [h.countLength]
    have hget := List.getElem?_eq_getElem hold
    have hline := h.lineActive v hv
    rw [tick_trig_getElem? h.countLength hget, tick_drumCount_getElem? h.countLength hget]
    rw [hget] at hline
    generalize s.drumCount[v] = n at hline
    by_cases hlast : n = 1
    · simp [hlast]
    · rw [if_neg hlast, hline]
      simp only [ne_eq, Option.some_inj]
      omega

/-! ### The gate -/

theorem gateOk_transferDone {s : State} (h : GateOk s) (b : Byte) : GateOk (transferDone b s) := by
  have hsel : (transferDone b s).bankSel = none := by
    rw [transferDone_bankSel]
    cases hbusy : s.busy with
    | true => rfl
    | false => simpa [hbusy] using h.busyIff
  exact ⟨by simp [hsel], by simp [hsel], by simpa using h.faultsRange⟩

theorem gateOk_tick {s : State} (hmap : AddrMapSound s.params) (h : GateOk s) : GateOk (tick s) := by
  cases hbusy : s.busy with
  | true =>
    obtain ⟨hheld, hsel, -, hfaults⟩ := tick_of_busy hbusy
    refine ⟨by rw [hheld, hsel, ← h.busyIff, hbusy], by simpa [hsel] using h.bankRange, ?_⟩
    rw [tick_params]
    rcases hfaults with hsame | hcounted
    · exact hsame ▸ h.faultsRange
    · exact hcounted ▸ min_le_right _ _
  | false =>
    obtain ⟨hfaults, ⟨hfree, hsel, -⟩ | ⟨out, hout, word, hheld, hsel, -⟩⟩ := tick_of_free hbusy
    · exact gateOk_of_eq h (hfree.trans hbusy.symm) hsel hfaults
    · refine ⟨by simp [hheld, hsel], fun b hb => ?_, by simpa [hfaults] using h.faultsRange⟩
      rw [tick_params, ← Option.some_inj.mp (hsel.symm.trans hb)]
      exact (resolve_of_sound hmap hout).1

/-! ### The envelopes -/

/-- The VCA's part of the envelope invariant (rules R27, R99). -/
structure VcaOk (r : VcaRuntime) : Prop where
  level : 0 ≤ r.currentLevel
  target : 0 ≤ r.targetLevel
  attack : r.state = .attack → 0 ≤ r.perTickDelta

/-- The VCF's part of the envelope invariant (rule R27). -/
structure VcfOk (r : VcfRuntime) : Prop where
  budget : 1 ≤ r.ticksToTarget
  elapsed : r.elapsedTicks ≤ r.ticksToTarget
  attack : r.state = .attack → r.elapsedTicks < r.ticksToTarget

theorem envelopeOk_iff {s : State} : EnvelopeOk s ↔ VcaOk s.vca ∧ VcfOk s.vcf :=
  ⟨fun ⟨h1, h2, h3, h4, h5, h6⟩ => ⟨⟨h1, h2, h3⟩, h4, h5, h6⟩,
    fun ⟨⟨h1, h2, h3⟩, h4, h5, h6⟩ => ⟨h1, h2, h3, h4, h5, h6⟩⟩

theorem stepBudget_pos (p : Params) (t : ℚ) : 1 ≤ stepBudget p t := le_max_left _ _

theorem vcaOk_next {p : Params} {c : EnvConfig} {r : VcaRuntime} (hsustain : 0 ≤ c.sustainLevel) (h : VcaOk r) :
    VcaOk (vcaNext p c r) := by
  cases hstate : r.state with
  | idle => rwa [vcaNext_of_idle hstate]
  | attack =>
    have hlevel : 0 ≤ r.currentLevel + r.perTickDelta := add_nonneg h.level (h.attack hstate)
    rcases lt_or_ge (r.currentLevel + r.perTickDelta) r.targetLevel with hbelow | hreached
    · rw [vcaNext_of_attack_below hstate hbelow]
      exact ⟨hlevel, h.target, h.attack⟩
    · rw [vcaNext_of_attack_reached hstate hreached]
      exact ⟨hlevel, mul_nonneg h.target hsustain, nofun⟩
  | decay =>
    rcases le_or_gt r.currentLevel r.targetLevel with hplateau | habove
    · rwa [vcaNext_of_decay_plateau hstate hplateau]
    · rw [vcaNext_of_decay_above hstate habove]
      exact ⟨h.target.trans (le_max_left _ _), h.target, h.attack⟩
  | release =>
    rcases le_or_gt r.currentLevel 0 with hrest | habove
    · rw [vcaNext_of_release_rest hstate hrest]
      exact ⟨h.level, h.target, nofun⟩
    · rcases le_or_gt (r.currentLevel + r.perTickDelta) 0 with hends | hstays
      · rw [vcaNext_of_release_ends hstate habove hends]
        exact ⟨le_rfl, h.target, nofun⟩
      · rw [vcaNext_of_release_stays hstate habove hstays]
        exact ⟨hstays.le, h.target, h.attack⟩

theorem vcfOk_next {p : Params} {c : VcfConfig} {rest : ℚ} {r : VcfRuntime} (h : VcfOk r) :
    VcfOk (vcfNext p c rest r) := by
  cases hstate : r.state with
  | idle => rwa [vcfNext_of_idle hstate]
  | attack =>
    rcases Nat.lt_or_ge (r.elapsedTicks + 1) r.ticksToTarget with hearlier | hlast
    · rw [vcfNext_of_attack_earlier hstate hearlier]
      exact ⟨h.budget, hearlier.le, fun _ => hearlier⟩
    · rw [vcfNext_of_attack_last hstate hlast]
      exact ⟨stepBudget_pos _ _, Nat.zero_le _, nofun⟩
  | decay =>
    rcases budget_cases r with hearlier | hlast | hplateau
    · rw [vcfNext_of_decay_earlier hstate hearlier]
      exact ⟨h.budget, hearlier.le, fun _ => hearlier⟩
    · rw [vcfNext_of_decay_last hstate hlast]
      exact ⟨h.budget, hlast.le, fun hattack => nomatch hstate.symm.trans hattack⟩
    · rwa [vcfNext_of_decay_plateau hstate hplateau]
  | release =>
    rcases budget_cases r with hearlier | hlast | hcomplete
    · rw [vcfNext_of_release_earlier hstate hearlier]
      exact ⟨h.budget, hearlier.le, fun _ => hearlier⟩
    · rw [vcfNext_of_release_last hstate hlast]
      exact ⟨h.budget, hlast.le, nofun⟩
    · rw [vcfNext_of_release_complete hstate hcomplete]
      exact ⟨h.budget, h.elapsed, nofun⟩

theorem envelopeOk_tick {s : State} (hsustain : 0 ≤ s.cfgVca.sustainLevel) (h : EnvelopeOk s) :
    EnvelopeOk (tick s) := by
  obtain ⟨hvca, hvcf⟩ := envelopeOk_iff.mp h
  refine envelopeOk_iff.mpr ⟨?_, ?_⟩
  · by_cases hphase : s.p = 2
    · rw [tick_vca_of_vcaPhase hphase, vcaStep_vca_eq_next]
      exact vcaOk_next hsustain hvca
    · rwa [tick_vca_of_otherPhase hphase]
  · by_cases hphase : s.p = 3
    · rw [tick_vcf_of_vcfPhase hphase, vcfStep_vcf_eq_next]
      exact vcfOk_next hvcf
    · rwa [tick_vcf_of_otherPhase hphase]

theorem envelopeOk_noteOn {s : State} (hperiod : 0 < tickPeriodMs s.params) (hconfig : EnvConfigOk s.cfgVca)
    (h : EnvelopeOk s) (n v : Byte) : EnvelopeOk (noteOn n v s) := by
  obtain ⟨hsens0, hsens1⟩ := hconfig.velSensUnit
  obtain ⟨hfactor, -⟩ := velocityFactor_mem_unit hsens0 hsens1 v
  have hdelta : 0 ≤ tickPeriodMs s.params * velocityFactor s.cfgVca.velocitySensitivity v / s.cfgVca.attackTimeMs :=
    div_nonneg (mul_nonneg hperiod.le hfactor) hconfig.attackPos.le
  have hbudget := stepBudget_pos s.params s.cfgVcf.attackTimeMs
  rw [noteOn_eq]
  exact ⟨h.vcaLevel, hfactor, fun _ => hdelta, hbudget, Nat.zero_le _, fun _ => hbudget⟩

theorem envelopeOk_noteOff {s : State} (h : EnvelopeOk s) : EnvelopeOk (noteOff s) := by
  rw [noteOff_eq]
  exact ⟨h.vcaLevel, le_rfl, nofun, stepBudget_pos _ _, Nat.zero_le _, nofun⟩

/-! ### The trace -/

theorem outEventOk_of_mem_tick_trace {s : State} (hmap : AddrMapSound s.params)
    (h : ∀ e ∈ s.trace, outEventOk s.params e) : ∀ e ∈ (tick s).trace, outEventOk s.params e := by
  have hcountdown : ∀ e ∈ s.trace ++ drumEvents s, outEventOk s.params e := by
    intro e he
    rcases List.mem_append.mp he with hold | hidle
    · exact h e hold
    · obtain ⟨v, hv, rfl⟩ := eq_setTrigger_of_mem_drumEvents hidle
      exact hv
  cases hbusy : s.busy with
  | true =>
    obtain ⟨-, -, htrace, -⟩ := tick_of_busy hbusy
    rwa [htrace]
  | false =>
    obtain ⟨-, ⟨-, -, htrace⟩ | ⟨out, hout, word, -, -, htrace⟩⟩ := tick_of_free hbusy
    · rwa [htrace]
    · intro e he
      rw [htrace] at he
      rcases List.mem_append.mp he with hold | hsent
      · exact hcountdown e hold
      · rw [List.mem_singleton.mp hsent]
        exact (resolve_of_sound hmap hout).1

/-! ### The reset record -/

/-- The reset table meets the invariant whatever was sent before it (rule R138). -/
theorem inv_setBlock_blockReset {s : State} (hbuilt : defect s.params = none)
    (htrace : ∀ e ∈ s.trace, outEventOk s.params e) : Inv (s.setBlock (blockReset s.params)) := by
  obtain ⟨htimes, -, -, hparams⟩ := defect_eq_none_iff_sound.mp hbuilt
  have hlevels := hparams.levels
  exact {
    built := hbuilt
    config := {
      vcaOk := ⟨htimes.vcaAttack, htimes.vcaDecay, htimes.vcaRelease, hlevels.vcaSustain, hlevels.vcaVelSens⟩
      vcfOk := ⟨htimes.vcfAttack, htimes.vcfDecay, htimes.vcfRelease, hlevels.vcfSustain, hlevels.vcfVelSens⟩
      trackingUnit := hlevels.tracking
      amountRange := hlevels.amount
      cutoffRange := hlevels.cutoff
      resonanceRange := hlevels.resonance
      auxRange := by simp [blockReset] }
    drums := {
      countLength := List.length_replicate
      trigLength := List.length_replicate
      countRange := fun n hn => (List.eq_of_mem_replicate hn).trans_le (Nat.zero_le _)
      lineActive := fun v hv => by
        have hvoice : v < s.params.nDrum := hv
        simp [blockReset, hvoice] }
    gate := ⟨by simp [blockReset], by simp [blockReset], Nat.zero_le _⟩
    envelopes := ⟨le_rfl, le_rfl, nofun, le_rfl, Nat.zero_le _, nofun⟩
    phase := (by norm_num : 0 < 4).trans_le hparams.scalars.k
    traceOk := htrace }

theorem inv_resetState {p : Params} (hbuilt : defect p = none) : Inv (resetState p) := by
  rw [← setBlock_blockReset_resetState]
  exact inv_setBlock_blockReset hbuilt nofun

/-- Settles O44: construction answers the reset state of a sound set. -/
theorem constructionMeetsTheInvariant : Obligations.ConstructionMeetsTheInvariant := by
  intro p s hbuilt
  obtain ⟨hsound, rfl⟩ := construct_eq_ok_iff.mp hbuilt
  exact inv_resetState hsound

/-- Settles O43: TC is a sound set, which the kernel computes. -/
theorem resetMeetsTheInvariant : Obligations.ResetMeetsTheInvariant :=
  inv_resetState (by decide +kernel)

/-! ### Every effect -/

/-- The invariant is kept by each effect: the parts it writes by the lemma about that part, the others by the fields
they read. -/
theorem inv_of_effect {i : Instr} {s t : State} (h : Inv s) (heffect : Effect s i t) : Inv t := by
  obtain ⟨-, hmap, -, hparams⟩ := defect_eq_none_iff_sound.mp h.built
  have hscalars := hparams.scalars
  cases heffect with
  | unchanged => exact h
  | configured _ id val =>
    exact {
      built := by simpa using h.built
      config := configOk_writeParam hscalars h.config id val
      drums := drumOk_of_eq h.drums
      gate := gateOk_of_eq h.gate
      envelopes := envelopeOk_of_eq h.envelopes
      phase := by simpa using h.phase
      traceOk := by simpa using h.traceOk }
  | @armed ch note vel v hmapped =>
    exact {
      built := by simpa using h.built
      config := configOk_of_eq h.config
      drums := drumOk_armDrum hscalars.drumPulse h.drums v
      gate := gateOk_of_eq h.gate
      envelopes := envelopeOk_of_eq h.envelopes
      phase := by simpa using h.phase
      traceOk := fun e he => by
        rw [armDrum_trace] at he
        rw [armDrum_params]
        rcases List.mem_append.mp he with hold | harmed
        · exact h.traceOk e hold
        · rw [List.mem_singleton.mp harmed]
          exact hparams.drumVoices note v hmapped }
  | noteOn ch n v =>
    exact {
      built := by simpa using h.built
      config := configOk_of_eq h.config
      drums := drumOk_of_eq h.drums
      gate := gateOk_of_eq h.gate
      envelopes := envelopeOk_noteOn hscalars.tickPeriod h.config.vcaOk h.envelopes n v
      phase := by simpa using h.phase
      traceOk := by simpa using h.traceOk }
  | noteOff =>
    exact {
      built := by simpa using h.built
      config := configOk_of_eq h.config
      drums := drumOk_of_eq h.drums
      gate := gateOk_of_eq h.gate
      envelopes := envelopeOk_noteOff h.envelopes
      phase := by simpa using h.phase
      traceOk := by simpa using h.traceOk }
  | tick =>
    exact {
      built := by simpa using h.built
      config := configOk_of_eq h.config
      drums := drumOk_tick h.drums
      gate := gateOk_tick hmap h.gate
      envelopes := envelopeOk_tick h.config.vcaOk.sustainUnit.1 h.envelopes
      phase := by
        rw [tick_p, tick_params]
        exact Nat.mod_lt _ (Nat.zero_lt_of_lt h.phase)
      traceOk := by simpa using outEventOk_of_mem_tick_trace hmap h.traceOk }
  | done b =>
    exact {
      built := by simpa using h.built
      config := configOk_of_eq h.config
      drums := drumOk_of_eq h.drums
      gate := gateOk_transferDone h.gate b
      envelopes := envelopeOk_of_eq h.envelopes
      phase := by simpa using h.phase
      traceOk := by simpa using h.traceOk }
  | reset => exact inv_setBlock_blockReset h.built h.traceOk

/-- Settles O42: a step is no event or one effect on the state without it, and every effect keeps the invariant. -/
theorem stepKeepsTheInvariant : Obligations.StepKeepsTheInvariant := by
  intro s t h hstep
  obtain ⟨-, ⟨-, rfl⟩ | ⟨e, rest, -, heffect⟩⟩ := step_cases hstep
  · exact h
  · exact inv_of_effect (inv_setInbox h rest) heffect

end Sys2Proof.Proofs.Invariant
end

section
/-! The VCF's legs (rules R82, R91 to R93, R95, R97, R98, R152): within its budget every leg is on its line, and its
last step decides what it ends in. -/

namespace Sys2Proof.Proofs.VcfLegs
open Sys2Proof Sys2Proof.Machine Sys2Proof.Proofs.EnvelopeTriggers Sys2Proof.Proofs.EnvelopeSteps
  Sys2Proof.Proofs.Invariant

/-- The runtime is at the start of a leg that covers the distance `x` in `n` steps. -/
structure LegStart (r : VcfRuntime) (n : ℕ) (x : ℚ) : Prop where
  start : r.elapsedTicks = 0
  budget : r.ticksToTarget = n
  pos : 1 ≤ n
  delta : r.perTickDelta = x / (n : ℚ)

section
variable {p : Params} {c : VcfConfig} {rest : ℚ} {r : VcfRuntime}

/-- Before the last step of its budget every leg adds its delta and counts. -/
theorem vcfNext_of_earlier (hactive : r.state ≠ .idle) (hearlier : r.elapsedTicks + 1 < r.ticksToTarget) :
    vcfNext p c rest r =
      { r with currentLevel := r.currentLevel + r.perTickDelta, elapsedTicks := r.elapsedTicks + 1 } := by
  cases hstate : r.state with
  | idle => exact absurd hstate hactive
  | attack => rw [vcfNext_of_attack_earlier hstate hearlier, hstate]
  | decay => rw [vcfNext_of_decay_earlier hstate hearlier, hstate]
  | release => rw [vcfNext_of_release_earlier hstate hearlier, hstate]

variable {n : ℕ} {x : ℚ} (h : LegStart r n x)
include h

theorem iterate_vcfNext_within (hactive : r.state ≠ .idle) {m : ℕ} (hm : m < n) :
    (vcfNext p c rest)^[m] r =
      { r with currentLevel := r.currentLevel + (m : ℚ) / (n : ℚ) * x, elapsedTicks := m } := by
  induction m with
  | zero =>
    rw [Nat.cast_zero, zero_div, zero_mul, add_zero]
    exact congrArg (fun e => { r with elapsedTicks := e }) h.start
  | succ m ih =>
    rw [Function.iterate_succ_apply', ih (Nat.lt_of_succ_lt hm),
      vcfNext_of_earlier (by exact hactive) (h.budget.symm ▸ hm), h.delta]
    congr 1
    push_cast
    ring

/-- The runtime before the last step of a leg. -/
theorem iterate_vcfNext_budget (hactive : r.state ≠ .idle) :
    (vcfNext p c rest)^[n] r =
      vcfNext p c rest
        { r with currentLevel := r.currentLevel + x - r.perTickDelta, elapsedTicks := n - 1 } := by
  have hn : (n : ℚ) ≠ 0 := Nat.cast_ne_zero.mpr (Nat.one_le_iff_ne_zero.mp h.pos)
  have hlevel : ((n - 1 : ℕ) : ℚ) / (n : ℚ) * x = x - r.perTickDelta := by
    rw [Nat.cast_pred h.pos, h.delta]
    field_simp
  rw [← Nat.sub_add_cancel h.pos, Function.iterate_succ_apply',
    iterate_vcfNext_within h hactive (Nat.sub_lt h.pos one_pos), Nat.sub_add_cancel h.pos, hlevel, add_sub_assoc]

/-- An ATTACK leg ends on its line, at the start of the DECAY leg to the sustain target (rule R91). -/
theorem iterate_vcfNext_attack_end (hstate : r.state = .attack) :
    (vcfNext p c rest)^[n] r =
      { state := .decay
        currentLevel := r.currentLevel + x
        targetLevel := rest + (r.targetLevel - rest) * c.sustainLevel
        perTickDelta :=
          (rest + (r.targetLevel - rest) * c.sustainLevel - (r.currentLevel + x)) / (stepBudget p c.decayTimeMs : ℚ)
        elapsedTicks := 0
        ticksToTarget := stepBudget p c.decayTimeMs
        keyboardShift := r.keyboardShift } := by
  have hlast : r.ticksToTarget ≤ n - 1 + 1 := by rw [h.budget, Nat.sub_add_cancel h.pos]
  rw [iterate_vcfNext_budget h (by simp [hstate]), vcfNext_of_attack_last (by exact hstate) (by exact hlast)]
  simp only [sub_add_cancel]

/-- A DECAY leg ends on its target, where it stays with its counter at the budget (rule R92). -/
theorem iterate_vcfNext_decay_end (hstate : r.state = .decay) {m : ℕ} (hm : n ≤ m) :
    (vcfNext p c rest)^[m] r = { r with currentLevel := r.targetLevel, elapsedTicks := n } := by
  have hlast : n - 1 + 1 = n := Nat.sub_add_cancel h.pos
  have hend : (vcfNext p c rest)^[n] r = { r with currentLevel := r.targetLevel, elapsedTicks := n } := by
    rw [iterate_vcfNext_budget h (by simp [hstate]),
      vcfNext_of_decay_last (by exact hstate) (by exact hlast.trans h.budget.symm), hlast]
  obtain ⟨j, rfl⟩ := Nat.exists_eq_add_of_le' hm
  rw [Function.iterate_add_apply, hend]
  exact Function.iterate_fixed (vcfNext_of_decay_plateau (by exact hstate) h.budget.le) j

/-- A RELEASE leg ends on its target, in IDLE for good (rule R93). -/
theorem iterate_vcfNext_release_end (hstate : r.state = .release) (j : ℕ) :
    (vcfNext p c rest)^[n + j] r =
      { r with state := .idle, currentLevel := r.targetLevel, elapsedTicks := n } := by
  have hlast : n - 1 + 1 = n := Nat.sub_add_cancel h.pos
  have hend : (vcfNext p c rest)^[n] r =
      { r with state := .idle, currentLevel := r.targetLevel, elapsedTicks := n } := by
    rw [iterate_vcfNext_budget h (by simp [hstate]),
      vcfNext_of_release_last (by exact hstate) (by exact hlast.trans h.budget.symm), hlast]
  rw [Nat.add_comm, Function.iterate_add_apply, hend]
  exact Function.iterate_fixed (vcfNext_of_idle rfl) j

end

/-! ### The DECAY leg as a whole -/

section
variable {p : Params} {c : VcfConfig} {rest : ℚ} {r : VcfRuntime} {n : ℕ} {target : ℚ}
  (h : LegStart r n (target - r.currentLevel)) (hstate : r.state = .decay) (htarget : r.targetLevel = target)
include h hstate

theorem iterate_vcfNext_decay_counts (m : ℕ) :
    ((vcfNext p c rest)^[m] r).state = .decay ∧ ((vcfNext p c rest)^[m] r).ticksToTarget = n ∧
      ((vcfNext p c rest)^[m] r).elapsedTicks = min m n := by
  rcases Nat.lt_or_ge m n with hm | hm
  · rw [iterate_vcfNext_within h (by simp [hstate]) hm, min_eq_left hm.le]
    exact ⟨hstate, h.budget, rfl⟩
  · rw [iterate_vcfNext_decay_end h hstate hm, min_eq_right hm]
    exact ⟨hstate, h.budget, rfl⟩

include htarget

theorem iterate_vcfNext_decay_line {m : ℕ} (hm : m ≤ n) :
    ((vcfNext p c rest)^[m] r).currentLevel =
      r.currentLevel + (m : ℚ) / (n : ℚ) * (target - r.currentLevel) := by
  rcases hm.lt_or_eq with hwithin | rfl
  · rw [iterate_vcfNext_within h (by simp [hstate]) hwithin]
  · have hm0 : (m : ℚ) ≠ 0 := Nat.cast_ne_zero.mpr (Nat.one_le_iff_ne_zero.mp h.pos)
    rw [iterate_vcfNext_decay_end h hstate le_rfl, div_self hm0, one_mul, add_sub_cancel]
    exact htarget

theorem iterate_vcfNext_decay_holds {m : ℕ} (hm : n ≤ m) : ((vcfNext p c rest)^[m] r).currentLevel = target := by
  rw [iterate_vcfNext_decay_end h hstate hm]
  exact htarget

end

/-! ### From a trigger -/

theorem iterate_vcfStep_noteOn (m : ℕ) (n v : Byte) (s : State) :
    (vcfStep^[m] (noteOn n v s)).vcf =
      (vcfNext s.params s.cfgVcf s.glob.vcfCutoff)^[m]
        (vcfNoteOnNext s.params s.cfgVcf s.glob.vcfCutoff { note := n, velocity := v } s.vcf) := by
  rw [iterate_vcfStep_vcf, noteOn_params, noteOn_cfgVcf, noteOn_glob, noteOn_eq]

theorem iterate_vcfStep_noteOff (m : ℕ) (s : State) :
    (vcfStep^[m] (noteOff s)).vcf =
      (vcfNext s.params s.cfgVcf s.glob.vcfCutoff)^[m]
        (vcfNoteOffNext s.params s.cfgVcf s.glob.vcfCutoff s.vcf) := by
  rw [iterate_vcfStep_vcf, noteOff_params, noteOff_cfgVcf, noteOff_glob, noteOff_eq]

theorem legStart_noteOn (p : Params) (c : VcfConfig) (cutoff : ℚ) (note : MidiNoteState) (r : VcfRuntime) :
    LegStart (vcfNoteOnNext p c cutoff note r) (stepBudget p c.attackTimeMs)
      ((vcfNoteOnNext p c cutoff note r).targetLevel - cutoff) :=
  ⟨rfl, rfl, stepBudget_pos p c.attackTimeMs, rfl⟩

theorem legStart_noteOff (p : Params) (c : VcfConfig) (cutoff : ℚ) (r : VcfRuntime) :
    LegStart (vcfNoteOffNext p c cutoff r) (stepBudget p c.releaseTimeMs) (cutoff - r.currentLevel) :=
  ⟨rfl, rfl, stepBudget_pos p c.releaseTimeMs, rfl⟩

/-- Settles O48: the attack leg runs on its line to the start of a decay leg, and that leg to its plateau. -/
theorem vcfAttackAndDecayTakeTheirBudgets : Obligations.VcfAttackAndDecayTakeTheirBudgets := by
  intro ch n v s t h a d rise sustain
  obtain rfl : noteOn n v s = t := Host.Outcome.next.inj ((exec_noteOn ch n v s).symm.trans h)
  simp only [iterate_vcfStep_noteOn]
  set next := vcfNext s.params s.cfgVcf s.glob.vcfCutoff
  set r := vcfNoteOnNext s.params s.cfgVcf s.glob.vcfCutoff { note := n, velocity := v } s.vcf
  have hrise : r.targetLevel - s.glob.vcfCutoff = rise :=
    (congrArg (·.targetLevel - s.glob.vcfCutoff) (iterate_vcfStep_noteOn 0 n v s)).symm
  have hattack : LegStart r a rise := hrise ▸ legStart_noteOn s.params s.cfgVcf s.glob.vcfCutoff _ s.vcf
  have hwithin {m : ℕ} (hm : m < a) := iterate_vcfNext_within (p := s.params) (c := s.cfgVcf)
    (rest := s.glob.vcfCutoff) hattack (nofun : EnvState.attack ≠ .idle) hm
  have hturn := iterate_vcfNext_attack_end (p := s.params) (c := s.cfgVcf) (rest := s.glob.vcfCutoff) hattack rfl
  rw [hrise] at hturn
  set r₁ : VcfRuntime := { state := .decay, currentLevel := r.currentLevel + rise, targetLevel := sustain, .. }
  have hdecay : LegStart r₁ d (sustain - r₁.currentLevel) :=
    ⟨rfl, rfl, stepBudget_pos s.params s.cfgVcf.decayTimeMs, rfl⟩
  have hlater (m : ℕ) : next^[a + m] r = next^[m] r₁ := by
    rw [Nat.add_comm, Function.iterate_add_apply, hturn]
  refine ⟨fun m hm => ?_, ?_, ?_, fun m => ?_, fun m hm => ?_, fun m => ?_⟩
  · rw [hwithin hm]
    exact ⟨rfl, rfl, rfl⟩
  · rw [hturn]
  · rw [hturn]
    rfl
  · rw [hlater]
    exact iterate_vcfNext_decay_counts hdecay rfl m
  · rw [hlater]
    exact iterate_vcfNext_decay_line hdecay rfl rfl hm
  · rw [Nat.add_assoc, hlater]
    exact iterate_vcfNext_decay_holds hdecay rfl rfl (Nat.le_add_right d m)

/-- Settles O49: the release leg is on its line within the budget and ends at the cutoff of the note-off. -/
theorem vcfReleaseTakesItsBudget : Obligations.VcfReleaseTakesItsBudget := by
  intro ch n v s t h r
  obtain rfl : noteOff s = t := Host.Outcome.next.inj ((exec_noteOff ch n v s).symm.trans h)
  simp only [iterate_vcfStep_noteOff]
  have hrelease : LegStart (vcfNoteOffNext s.params s.cfgVcf s.glob.vcfCutoff s.vcf) r
      (s.glob.vcfCutoff - s.vcf.currentLevel) := legStart_noteOff s.params s.cfgVcf s.glob.vcfCutoff s.vcf
  refine ⟨fun m hm => ?_, fun m => ?_⟩
  · rw [iterate_vcfNext_within hrelease (nofun : EnvState.release ≠ .idle) hm]
    exact ⟨rfl, rfl⟩
  · rw [iterate_vcfNext_release_end hrelease rfl m]
    exact ⟨rfl, rfl⟩

end Sys2Proof.Proofs.VcfLegs
end

section
/-! The VCA's legs (rules R87 to R89, R94, R96, R98, R99): each leg is a line with a floor or a ceiling, and it ends
within its time. -/

namespace Sys2Proof.Proofs.VcaLegs
open Sys2Proof Sys2Proof.Machine Sys2Proof.Proofs.EnvelopeTriggers Sys2Proof.Proofs.EnvelopeSteps

/-- Once its leg's time is over, the deltas of a leg sum to at least the distance it covers (rules R94, R96). -/
theorem le_mul_delta {period time x distance : ℚ} (hperiod : 0 < period) (htime : 0 < time) (hdistance : 0 ≤ distance)
    (hx : time / period ≤ x) : distance ≤ x * (period * distance / time) := by
  have hsteps : 1 ≤ x * (period / time) := by
    rw [div_le_iff₀ hperiod] at hx
    rwa [← mul_div_assoc, le_div_iff₀ htime, one_mul]
  calc distance = 1 * distance := (one_mul _).symm
    _ ≤ x * (period / time) * distance := mul_le_mul_of_nonneg_right hsteps hdistance
    _ = x * (period * distance / time) := by ring

theorem iterate_vcaStep_noteOn (m : ℕ) (n v : Byte) (s : State) :
    (vcaStep^[m] (noteOn n v s)).vca =
      (vcaNext s.params s.cfgVca)^[m] (vcaNoteOnNext s.params s.cfgVca v s.vca) := by
  rw [iterate_vcaStep_vca, noteOn_params, noteOn_cfgVca, noteOn_eq]

theorem iterate_vcaStep_noteOff (m : ℕ) (s : State) :
    (vcaStep^[m] (noteOff s)).vca = (vcaNext s.params s.cfgVca)^[m] (vcaNoteOffNext s.params s.cfgVca s.vca) := by
  rw [iterate_vcaStep_vca, noteOff_params, noteOff_cfgVca, noteOff_eq]

section
variable {p : Params} {c : EnvConfig} {r : VcaRuntime}

/-! ### ATTACK -/

/-- The level is below the target after each of the first `m` additions, so the leg is still on its line. -/
theorem iterate_vcaNext_attack (hstate : r.state = .attack) {m : ℕ}
    (hbelow : ∀ j < m, r.currentLevel + ((j + 1 : ℕ) : ℚ) * r.perTickDelta < r.targetLevel) :
    (vcaNext p c)^[m] r = { r with currentLevel := r.currentLevel + (m : ℚ) * r.perTickDelta } := by
  induction m with
  | zero => rw [Nat.cast_zero, zero_mul, add_zero, Function.iterate_zero_apply]
  | succ m ih =>
    have hlevel : r.currentLevel + (m : ℚ) * r.perTickDelta + r.perTickDelta =
        r.currentLevel + ((m + 1 : ℕ) : ℚ) * r.perTickDelta := by
      push_cast
      ring
    rw [Function.iterate_succ_apply', ih fun j hj => hbelow j (hj.trans (Nat.lt_succ_self m)),
      vcaNext_of_attack_below (by exact hstate) (by exact hlevel ▸ hbelow m (Nat.lt_succ_self m)), hlevel]

/-- The first addition that reaches the target is the step into DECAY. -/
theorem iterate_vcaNext_attack_end (hstate : r.state = .attack) {m : ℕ}
    (hbelow : ∀ j < m, r.currentLevel + ((j + 1 : ℕ) : ℚ) * r.perTickDelta < r.targetLevel)
    (hreached : r.targetLevel ≤ r.currentLevel + ((m + 1 : ℕ) : ℚ) * r.perTickDelta) :
    ((vcaNext p c)^[m + 1] r).state = .decay := by
  have hlevel : r.currentLevel + ((m + 1 : ℕ) : ℚ) * r.perTickDelta =
      r.currentLevel + (m : ℚ) * r.perTickDelta + r.perTickDelta := by
    push_cast
    ring
  rw [Function.iterate_succ_apply', iterate_vcaNext_attack hstate hbelow,
    vcaNext_of_attack_reached (by exact hstate) (by exact hlevel ▸ hreached)]

/-! ### DECAY -/

/-- A DECAY leg is its line, held at the target (rule R88). -/
theorem iterate_vcaNext_decay (hstate : r.state = .decay) (habove : r.targetLevel ≤ r.currentLevel)
    (hdelta : r.perTickDelta ≤ 0) (m : ℕ) :
    (vcaNext p c)^[m] r =
      { r with currentLevel := max r.targetLevel (r.currentLevel + (m : ℚ) * r.perTickDelta) } := by
  induction m with
  | zero => rw [Nat.cast_zero, zero_mul, add_zero, max_eq_right habove, Function.iterate_zero_apply]
  | succ m ih =>
    have hlevel : r.currentLevel + ((m + 1 : ℕ) : ℚ) * r.perTickDelta =
        r.currentLevel + (m : ℚ) * r.perTickDelta + r.perTickDelta := by
      push_cast
      ring
    rw [Function.iterate_succ_apply', ih, hlevel]
    rcases le_or_gt (r.currentLevel + (m : ℚ) * r.perTickDelta) r.targetLevel with hplateau | hline
    · rw [max_eq_left hplateau, max_eq_left (by linarith), vcaNext_of_decay_plateau (by exact hstate) le_rfl]
    · rw [max_eq_right hline.le, vcaNext_of_decay_above (by exact hstate) (by exact hline)]

/-! ### RELEASE -/

/-- Where a RELEASE leg from level `level` by `delta` is after `m` steps: still on its line above 0 (at its start
perhaps on 0), or at rest (rule R89). -/
def Releasing (level delta : ℚ) (m : ℕ) (r : VcaRuntime) : Prop :=
  (r.state = .release ∧ r.perTickDelta = delta ∧ r.currentLevel = level + (m : ℚ) * delta ∧
      (m = 0 ∨ 0 < r.currentLevel)) ∨
    (r.state = .idle ∧ r.currentLevel = 0)

theorem releasing_next {level delta : ℚ} {m : ℕ} (hlevel : 0 ≤ level) (h : Releasing level delta m r) :
    Releasing level delta (m + 1) (vcaNext p c r) := by
  rcases h with ⟨hstate, hdelta, hline, hpos⟩ | ⟨hstate, hrest⟩
  · rcases le_or_gt r.currentLevel 0 with hrest | habove
    · obtain rfl : m = 0 := hpos.resolve_right hrest.not_gt
      have hzero : r.currentLevel = 0 := le_antisymm hrest (by rw [hline]; simpa using hlevel)
      rw [vcaNext_of_release_rest hstate hrest]
      exact .inr ⟨rfl, hzero⟩
    · rcases le_or_gt (r.currentLevel + r.perTickDelta) 0 with hends | hstays
      · rw [vcaNext_of_release_ends hstate habove hends]
        exact .inr ⟨rfl, rfl⟩
      · rw [vcaNext_of_release_stays hstate habove hstays]
        refine .inl ⟨hstate, hdelta, ?_, .inr hstays⟩
        show r.currentLevel + r.perTickDelta = _
        rw [hline, hdelta]
        push_cast
        ring
  · rw [vcaNext_of_idle hstate]
    exact .inr ⟨hstate, hrest⟩

theorem releasing_iterate (hstate : r.state = .release) (hlevel : 0 ≤ r.currentLevel) (m : ℕ) :
    Releasing r.currentLevel r.perTickDelta m ((vcaNext p c)^[m] r) := by
  induction m with
  | zero => exact .inl ⟨hstate, rfl, by simp, .inl rfl⟩
  | succ m ih =>
    rw [Function.iterate_succ_apply']
    exact releasing_next hlevel ih

/-- At rest once the line has come down to 0. -/
theorem rest_of_releasing {level delta : ℚ} {m : ℕ} (hm : 1 ≤ m) (hover : level + (m : ℚ) * delta ≤ 0)
    (h : Releasing level delta m r) : r.state = .idle ∧ r.currentLevel = 0 := by
  rcases h with ⟨-, -, hline, hstart | habove⟩ | hrest
  · omega
  · exact absurd habove (hline ▸ hover).not_gt
  · exact hrest

/-! ### A note-on from rest -/

/-- The two legs after a note-on from level 0 with attack target `target` and attack delta `delta` (rule R99). -/
def RisenFromRest (target delta : ℚ) (r : VcaRuntime) : Prop :=
  (r.state = .attack ∧ r.targetLevel = target ∧ r.perTickDelta = delta ∧ r.currentLevel ≤ target) ∨
    (r.state = .decay ∧ r.targetLevel ≤ r.currentLevel ∧ r.perTickDelta ≤ 0 ∧ r.currentLevel ≤ target + delta)

theorem risenFromRest_next {target delta : ℚ} (htarget : 0 ≤ target) (hsustain : c.sustainLevel ≤ 1)
    (hperiod : 0 < tickPeriodMs p) (hdecay : 0 < c.decayTimeMs) (h : RisenFromRest target delta r) :
    RisenFromRest target delta (vcaNext p c r) := by
  rcases h with ⟨hstate, rfl, rfl, hlevel⟩ | ⟨hstate, habove, hdelta, hbound⟩
  · rcases lt_or_ge (r.currentLevel + r.perTickDelta) r.targetLevel with hbelow | hreached
    · rw [vcaNext_of_attack_below hstate hbelow]
      exact .inl ⟨hstate, rfl, rfl, hbelow.le⟩
    · have hfall : r.targetLevel * c.sustainLevel ≤ r.currentLevel + r.perTickDelta :=
        (mul_le_of_le_one_right htarget hsustain).trans hreached
      rw [vcaNext_of_attack_reached hstate hreached]
      exact .inr ⟨rfl, hfall, div_nonpos_of_nonpos_of_nonneg
        (mul_nonpos_of_nonpos_of_nonneg (sub_nonpos.mpr hfall) hperiod.le) hdecay.le, by linarith⟩
  · rcases habove.eq_or_lt with hplateau | hline
    · rw [vcaNext_of_decay_plateau hstate hplateau.ge]
      exact .inr ⟨hstate, habove, hdelta, hbound⟩
    · rw [vcaNext_of_decay_above hstate hline]
      exact .inr ⟨hstate, le_max_left _ _, hdelta, max_le (habove.trans hbound) (by linarith)⟩

theorem risenFromRest_iterate {target delta : ℚ} (htarget : 0 ≤ target) (hsustain : c.sustainLevel ≤ 1)
    (hperiod : 0 < tickPeriodMs p) (hdecay : 0 < c.decayTimeMs) (h : RisenFromRest target delta r) (m : ℕ) :
    RisenFromRest target delta ((vcaNext p c)^[m] r) := by
  induction m with
  | zero => exact h
  | succ m ih =>
    rw [Function.iterate_succ_apply']
    exact risenFromRest_next htarget hsustain hperiod hdecay ih

theorem level_le_of_risenFromRest {target delta : ℚ} (hdelta : 0 ≤ delta) (h : RisenFromRest target delta r) :
    r.currentLevel ≤ target + delta := by
  rcases h with ⟨-, -, -, hlevel⟩ | ⟨-, -, -, hbound⟩
  · linarith
  · exact hbound

end

/-! ### The statements -/

/-- Settles O50: the first addition to reach the target comes within the attack time, since that many deltas cover the
target from level 0 already. -/
theorem vcaAttackEndsWithinItsTime : Obligations.VcaAttackEndsWithinItsTime := by
  intro ch n v s t h hperiod hattack hlevel hsens0 hsens1
  obtain rfl : noteOn n v s = t := Host.Outcome.next.inj ((exec_noteOn ch n v s).symm.trans h)
  simp only [iterate_vcaStep_noteOn]
  set r := vcaNoteOnNext s.params s.cfgVca v s.vca
  have htarget : 0 ≤ r.targetLevel := (velocityFactor_mem_unit hsens0 hsens1 v).1
  have hcovered {k : ℕ} (hk : s.cfgVca.attackTimeMs / tickPeriodMs s.params ≤ (k : ℚ)) :
      r.targetLevel ≤ r.currentLevel + (k : ℚ) * r.perTickDelta :=
    (le_mul_delta hperiod hattack htarget hk).trans (le_add_of_nonneg_left hlevel)
  have hreaches : ∃ k : ℕ, r.targetLevel ≤ r.currentLevel + ((k + 1 : ℕ) : ℚ) * r.perTickDelta := by
    obtain ⟨k, hk⟩ := exists_nat_ge (s.cfgVca.attackTimeMs / tickPeriodMs s.params)
    exact ⟨k, hcovered (hk.trans (Nat.cast_le.mpr (Nat.le_succ k)))⟩
  classical
  set k := Nat.find hreaches
  have hbelow : ∀ j < k, r.currentLevel + ((j + 1 : ℕ) : ℚ) * r.perTickDelta < r.targetLevel :=
    fun j hj => not_le.mp (Nat.find_min hreaches hj)
  have htime : (k : ℚ) < s.cfgVca.attackTimeMs / tickPeriodMs s.params := by
    by_contra hover
    cases hk : k with
    | zero =>
      rw [hk, Nat.cast_zero] at hover
      exact hover (div_pos hattack hperiod)
    | succ j => exact absurd (hcovered (not_lt.mp hover)) (hk ▸ hbelow j (by omega)).not_ge
  refine ⟨k + 1, Nat.le_add_left 1 k, ?_, fun j hj => ?_, ?_⟩
  · rw [Int.le_ceil_iff]
    push_cast
    linarith
  · rw [iterate_vcaNext_attack rfl fun i hi => hbelow i (by omega)]
    rfl
  · exact iterate_vcaNext_attack_end rfl hbelow (Nat.find_spec hreaches)

/-- Settles O51: the bound holds of both legs that follow, and no step leaves them. -/
theorem vcaLevelFromRestIsBounded : Obligations.VcaLevelFromRestIsBounded := by
  intro ch n v s t h hperiod hattack hdecay hrest hsens0 hsens1 _ hsustain m
  obtain rfl : noteOn n v s = t := Host.Outcome.next.inj ((exec_noteOn ch n v s).symm.trans h)
  rw [iterate_vcaStep_noteOn]
  obtain ⟨htarget, -⟩ := velocityFactor_mem_unit hsens0 hsens1 v
  have hdelta : 0 ≤ tickPeriodMs s.params * velocityFactor s.cfgVca.velocitySensitivity v / s.cfgVca.attackTimeMs :=
    div_nonneg (mul_nonneg hperiod.le htarget) hattack.le
  have hstart : RisenFromRest (velocityFactor s.cfgVca.velocitySensitivity v)
      (tickPeriodMs s.params * velocityFactor s.cfgVca.velocitySensitivity v / s.cfgVca.attackTimeMs)
      (vcaNoteOnNext s.params s.cfgVca v s.vca) := .inl ⟨rfl, rfl, rfl, hrest.trans_le htarget⟩
  exact level_le_of_risenFromRest hdelta (risenFromRest_iterate htarget hsustain hperiod hdecay hstart m)

/-- Settles O52: after the decay time the line is at or below the target, where the leg is held. -/
theorem vcaDecayReachesTheSustainLevel : Obligations.VcaDecayReachesTheSustainLevel := by
  intro s hperiod hdecay hstate habove hdelta m hm
  have hm' : s.cfgVca.decayTimeMs / tickPeriodMs s.params ≤ (m : ℚ) := by exact_mod_cast Int.ceil_le.mp hm
  have hcovered := le_mul_delta hperiod hdecay (sub_nonneg.mpr habove) hm'
  have hdelta' : s.vca.perTickDelta =
      -(tickPeriodMs s.params * (s.vca.currentLevel - s.vca.targetLevel) / s.cfgVca.decayTimeMs) := by
    rw [hdelta]
    ring
  have hfall : s.vca.perTickDelta ≤ 0 := by
    rw [hdelta', neg_nonpos]
    exact div_nonneg (mul_nonneg hperiod.le (sub_nonneg.mpr habove)) hdecay.le
  rw [iterate_vcaStep_vca, iterate_vcaNext_decay hstate habove hfall]
  refine ⟨hstate, max_eq_left ?_⟩
  rw [hdelta']
  linarith

/-- Settles O53: after the release time the line is at or below 0, and a release that starts on 0 takes one step. -/
theorem vcaReleaseReachesRest : Obligations.VcaReleaseReachesRest := by
  intro ch n v s t h hperiod hrelease hlevel m hm
  obtain rfl : noteOff s = t := Host.Outcome.next.inj ((exec_noteOff ch n v s).symm.trans h)
  obtain ⟨hone, hceil⟩ := max_le_iff.mp hm
  have hm' : s.cfgVca.releaseTimeMs / tickPeriodMs s.params ≤ (m : ℚ) := by exact_mod_cast Int.ceil_le.mp hceil
  have hcovered := le_mul_delta hperiod hrelease hlevel hm'
  have hdelta : (0 - s.vca.currentLevel) * tickPeriodMs s.params / s.cfgVca.releaseTimeMs =
      -(tickPeriodMs s.params * s.vca.currentLevel / s.cfgVca.releaseTimeMs) := by ring
  have hover : s.vca.currentLevel +
      (m : ℚ) * ((0 - s.vca.currentLevel) * tickPeriodMs s.params / s.cfgVca.releaseTimeMs) ≤ 0 := by
    rw [hdelta]
    linarith
  have hline := releasing_iterate (p := s.params) (c := s.cfgVca) (r := vcaNoteOffNext s.params s.cfgVca s.vca) rfl
    hlevel m
  rw [iterate_vcaStep_noteOff]
  exact rest_of_releasing (by exact_mod_cast hone) hover hline

end Sys2Proof.Proofs.VcaLegs
end

section
/-! Runs of ticks (rules R104, R112, R117, R119, R120): what a field holds after `n` ticks, read off the one tick that
writes it. -/

namespace Sys2Proof.Proofs.TickRuns
open Sys2Proof Sys2Proof.Machine Sys2Proof.Proofs.DrumMessages Sys2Proof.Proofs.TickOutput
  Sys2Proof.Proofs.TickScheduler Sys2Proof.Proofs.TickPhases Sys2Proof.Proofs.Effects Sys2Proof.Proofs.EnvelopeSteps
  Sys2Proof.Proofs.Construction

/-- A field that no tick writes is as it was after any number of them. -/
theorem iterate_tick_of_kept {α : Type} (field : State → α) (hkept : ∀ s, field (tick s) = field s) (n : ℕ)
    (s : State) : field (tick^[n] s) = field s := by
  induction n with
  | zero => rfl
  | succ n ih => rw [Function.iterate_succ_apply', hkept, ih]

/-! ### How often a phase comes round -/

/-- Of any `k` ticks in a row exactly one is in a given phase (rule R119). -/
theorem count_phase {k phase : ℕ} (h : phase < k) (start : ℕ) :
    Nat.count (fun j => (start + j) % k = phase) k = 1 := by
  have hwhole : Nat.count (fun j => j % k = phase) k = 1 := by
    rw [Nat.count_eq_card_filter_range, Finset.card_eq_one]
    refine ⟨phase, Finset.ext fun j => ?_⟩
    rw [Finset.mem_filter, Finset.mem_range, Finset.mem_singleton]
    constructor
    · rintro ⟨hj, hphase⟩
      rwa [Nat.mod_eq_of_lt hj] at hphase
    · rintro rfl
      exact ⟨h, Nat.mod_eq_of_lt h⟩
  have hfront := Nat.count_add (fun j => j % k = phase) start k
  have hback := Nat.count_add (fun j => j % k = phase) k start
  simp only [Nat.add_mod_left, hwhole] at hback
  rw [Nat.add_comm k start, hfront] at hback
  omega

/-- After `n` ticks the VCA has taken one step for each tick of phase 2. -/
theorem iterate_tick_vca (n : ℕ) {s : State} (h : s.p < s.params.k) :
    (tick^[n] s).vca =
      (vcaNext s.params s.cfgVca)^[Nat.count (fun j => (s.p + j) % s.params.k = 2) n] s.vca := by
  induction n with
  | zero => rfl
  | succ n ih =>
    have hp := iterate_tick_p n h
    rw [Function.iterate_succ_apply', Nat.count_succ]
    by_cases hphase : (s.p + n) % s.params.k = 2
    · rw [if_pos hphase, Function.iterate_succ_apply', tick_vca_of_vcaPhase (hp.trans hphase), vcaStep_vca_eq_next, ih,
        iterate_tick_params, iterate_tick_of_kept (·.cfgVca) tick_cfgVca]
    · rw [if_neg hphase, Nat.add_zero, tick_vca_of_otherPhase (hp.trans_ne hphase), ih]

/-- After `n` ticks the VCF has taken one step for each tick of phase 3. -/
theorem iterate_tick_vcf (n : ℕ) {s : State} (h : s.p < s.params.k) :
    (tick^[n] s).vcf =
      (vcfNext s.params s.cfgVcf s.glob.vcfCutoff)^[Nat.count (fun j => (s.p + j) % s.params.k = 3) n] s.vcf := by
  induction n with
  | zero => rfl
  | succ n ih =>
    have hp := iterate_tick_p n h
    rw [Function.iterate_succ_apply', Nat.count_succ]
    by_cases hphase : (s.p + n) % s.params.k = 3
    · rw [if_pos hphase, Function.iterate_succ_apply', tick_vcf_of_vcfPhase (hp.trans hphase), vcfStep_vcf_eq_next, ih,
        iterate_tick_params, iterate_tick_of_kept (·.cfgVcf) tick_cfgVcf, iterate_tick_of_kept (·.glob) tick_glob]
    · rw [if_neg hphase, Nat.add_zero, tick_vcf_of_otherPhase (hp.trans_ne hphase), ih]

/-- Settles O55: K ticks in a row hold phase 2 and phase 3 once each, since K is at least 4. -/
theorem kTicksStepEachEnvelopeOnce : Obligations.KTicksStepEachEnvelopeOnce := by
  intro s rest hbuilt hphase hinbox
  obtain ⟨-, -, -, hparams⟩ := defect_eq_none_iff_sound.mp hbuilt
  have hk := hparams.scalars.k
  refine ⟨_, run_ticks _ s rest hbuilt hinbox, ?_, ?_, ?_, iterate_tick_of_kept (·.midi) tick_midi _ s⟩
  · rw [State.setInbox_vca, iterate_tick_vca _ hphase, count_phase (by omega), vcaStep_vca_eq_next]
    rfl
  · rw [State.setInbox_vcf, iterate_tick_vcf _ hphase, count_phase (by omega), vcfStep_vcf_eq_next]
    rfl
  · rw [State.setInbox_p, iterate_tick_p _ hphase, Nat.add_mod_right, Nat.mod_eq_of_lt hphase]

/-! ### A drum pulse -/

/-- A line armed for `pulse` ticks counts down tick by tick and goes idle with the last (rule R112). -/
theorem iterate_tick_drum {s : State} (hcounters : s.drumCount.length = s.params.nDrum) {v pulse : ℕ}
    (hcount : s.drumCount[v]? = some pulse) (hline : s.trig[v]? = some .activeLvl) (hpulse : 1 ≤ pulse) {n : ℕ}
    (hn : n ≤ pulse) :
    (tick^[n] s).drumCount[v]? = some (pulse - n) ∧
      (tick^[n] s).trig[v]? = some (if n = pulse then TrigLevel.idleLvl else TrigLevel.activeLvl) := by
  induction n with
  | zero =>
    rw [if_neg (Nat.ne_of_lt hpulse)]
    exact ⟨hcount, hline⟩
  | succ n ih =>
    obtain ⟨hcount', hline'⟩ := ih (Nat.le_of_succ_le hn)
    have hcounters' : (tick^[n] s).drumCount.length = (tick^[n] s).params.nDrum := by
      rw [iterate_tick_params, iterate_tick_of_kept (·.drumCount.length) (by simp), hcounters]
    rw [Function.iterate_succ_apply', tick_drumCount_getElem? hcounters' hcount', tick_trig_getElem? hcounters' hcount',
      hline', if_neg (Nat.ne_of_lt hn), Option.map_some]
    refine ⟨by rw [Nat.sub_sub], ?_⟩
    by_cases hlast : n + 1 = pulse
    · rw [if_pos hlast, if_pos (by omega)]
    · rw [if_neg hlast, if_neg (by omega)]

/-- Settles O57: the note-on arms the voice for P ticks, and the run's ticks count it down. -/
theorem drumPulseLastsExactlyPTicks : Obligations.DrumPulseLastsExactlyPTicks := by
  intro n v ch note vel e s rest hbuilt hcounters hlines hdecode hmapped hn hinbox
  obtain ⟨-, -, -, hparams⟩ := defect_eq_none_iff_sound.mp hbuilt
  have hvoice : v < s.params.nDrum := hparams.drumVoices note v hmapped
  set u := armDrum v (s.setInbox (List.replicate n tickWord ++ rest)) with hu
  have harm : step s = .next u := by
    rw [step_of_event hbuilt hinbox, hdecode]
    exact exec_drumNoteOn_of_mapped (s := s.setInbox (List.replicate n tickWord ++ rest)) hmapped ch vel
  have hcount : u.drumCount[v]? = some s.params.drumPulse := by
    rw [hu, armDrum_drumCount]
    exact List.getElem?_set_self (hcounters.symm ▸ hvoice)
  have hline : u.trig[v]? = some .activeLvl := by
    rw [hu, armDrum_trig]
    exact List.getElem?_set_self (hlines.symm ▸ hvoice)
  have hpulse := iterate_tick_drum (by simpa [hu] using hcounters) hcount hline hparams.scalars.drumPulse hn
  refine ⟨(tick^[n] u).setInbox rest, ?_, rfl, hpulse⟩
  rw [run_succ_of_step n harm]
  exact run_ticks n u rest (by simpa [hu] using hbuilt) (by simp [hu])

end Sys2Proof.Proofs.TickRuns
end

section
/-! Runs and scripts (rules R70, R71, R79, R140, R141, R143): a lost completion, and scripts whose transfers complete
before the next tick. -/

namespace Sys2Proof.Proofs.ScriptRuns
open Sys2Proof Sys2Proof.Machine Sys2Proof.Proofs.Memory Sys2Proof.Proofs.TransportGate Sys2Proof.Proofs.TickOutput
  Sys2Proof.Proofs.TickScheduler Sys2Proof.Proofs.TickPhases Sys2Proof.Proofs.Encoding Sys2Proof.Proofs.Effects
  Sys2Proof.Proofs.MachineRules Sys2Proof.Proofs.Construction

/-! ### The kind of an event is its tag -/

/-- What a word decodes to is an event of the word's own tag (rule R58). -/
theorem eventTag_encode_decode (p : Params) (e : EventWord) : eventTag (encode (decode p e)) = eventTag e := by
  have htags : ∀ tag : BitVec 2, tag ≠ 0#2 → tag ≠ 1#2 → tag ≠ 2#2 → tag = 3#2 := by decide
  by_cases h0 : eventTag e = 0#2
  · rw [decode_of_tag_dispatch p h0, encode_decodeDispatch, eventTag_dispatchWord, h0]
  by_cases h1 : eventTag e = 1#2
  · rw [decode_of_tag_tick p h1, encode, eventTag_tickWord, h1]
  by_cases h2 : eventTag e = 2#2
  · rw [decode_of_tag_done p h2, encode, eventTag_doneWord, h2]
  have h3 := htags _ h0 h1 h2
  rw [decode_of_tag_reset p h3, encode, eventTag_resetWord, h3]

theorem eventTag_of_decode {p : Params} {e : EventWord} {i : Instr} (h : decode p e = i) :
    eventTag e = eventTag (encode i) := by
  rw [← h, eventTag_encode_decode]

/-! ### A lost completion -/

/-- Through a busy gate nothing but DONE and RESET gets anywhere (rules R76, R79). -/
theorem busy_of_effect {i : Instr} {s t : State} (h : Effect s i t) (hbusy : s.busy = true)
    (hdone : ∀ b, i ≠ .done b) (hreset : i ≠ .reset) :
    t.busy = true ∧ t.bankSel = s.bankSel ∧
      ∃ new, t.trace = s.trace ++ new ∧ ∀ x ∈ new, ∃ v l, x = .setTrigger v l := by
  cases h with
  | done b => exact absurd rfl (hdone b)
  | reset => exact absurd rfl hreset
  | tick =>
    obtain ⟨hheld, hsel, htrace, -⟩ := tick_of_busy hbusy
    exact ⟨hheld, hsel, drumEvents s, htrace, fun x hx => exists_setTrigger_of_mem hx⟩
  | @armed ch note vel v hmapped =>
    refine ⟨by simpa using hbusy, by simp, [.setTrigger v .activeLvl], by simp, fun x hx => ?_⟩
    exact ⟨_, _, List.mem_singleton.mp hx⟩
  | unchanged | configured | noteOn | noteOff => exact ⟨by simpa using hbusy, by simp, [], by simp, nofun⟩

theorem run_succ_eq_next {n : ℕ} {s t : State} (h : Host.Core.run Sys2Proof.core (n + 1) s = .next t) :
    ∃ u, step s = .next u ∧ Host.Core.run Sys2Proof.core n u = .next t := by
  cases hstep : step s with
  | next u => exact ⟨u, rfl, (run_succ_of_step n hstep).symm.trans h⟩
  | fault x =>
    have hcore : Sys2Proof.core.step s = .fault x := hstep
    simp only [Host.Core.run, hcore, reduceCtorEq] at h
  | refused x =>
    have hcore : Sys2Proof.core.step s = .refused x := hstep
    simp only [Host.Core.run, hcore, reduceCtorEq] at h

/-- Settles O58: each step of the run meets no event, or a message or tick that leaves the busy gate as it is. -/
theorem lostCompletionBlocksTheLink : Obligations.LostCompletionBlocksTheLink := by
  intro n
  induction n with
  | zero =>
    intro s t hbusy _ hrun
    obtain rfl : s = t := Host.Outcome.next.inj hrun
    exact ⟨hbusy, rfl, [], by simp, nofun⟩
  | succ n ih =>
    intro s t hbusy hevents hrun
    obtain ⟨u, hstep, hrest⟩ := run_succ_eq_next hrun
    obtain ⟨-, ⟨hinbox, rfl⟩ | ⟨e, rest, hinbox, heffect⟩⟩ := step_cases hstep
    · exact ih u t hbusy (by simp [hinbox]) hrest
    · rw [hinbox, List.take_succ_cons] at hevents
      have htag := hevents e List.mem_cons_self
      have hdone (b : Byte) : decode s.params e ≠ .done b := fun h => by
        rw [eventTag_of_decode h, encode, eventTag_doneWord] at htag
        revert htag
        decide
      have hreset : decode s.params e ≠ .reset := fun h => by
        rw [eventTag_of_decode h, encode, eventTag_resetWord] at htag
        revert htag
        decide
      obtain ⟨hbusy', hsel', new, htrace', hnew⟩ := busy_of_effect heffect hbusy hdone hreset
      obtain ⟨-, hinbox'⟩ := frame_of_effect heffect
      have hevents' : ∀ x ∈ u.inbox.take n, eventTag x = 0#2 ∨ eventTag x = 1#2 := fun x hx =>
        hevents x (List.mem_cons_of_mem _ (by rwa [hinbox'] at hx))
      obtain ⟨hheld, hsel, later, htrace, hlater⟩ := ih u t hbusy' hevents' hrest
      refine ⟨hheld, hsel.trans hsel', new ++ later, ?_, fun x hx => (List.mem_append.mp hx).elim (hnew x) (hlater x)⟩
      rw [htrace, htrace', List.append_assoc]
      rfl

/-! ### Presented events -/

/-- A presented event is taken at once, and the inbox is then as it was (rule R8). -/
theorem present_eq_exec {s : State} (hbuilt : defect s.params = none) (e : EventWord) :
    present e s = exec (decode s.params e) s :=
  step_of_event hbuilt rfl

theorem present_tickWord {s : State} (hbuilt : defect s.params = none) : present tickWord s = .next (tick s) := by
  rw [present_eq_exec hbuilt, decode_tickWord, exec_tick]

theorem present_doneWord {s : State} (hbuilt : defect s.params = none) (b : Byte) :
    present (doneWord b) s = .next (transferDone b s) := by
  rw [present_eq_exec hbuilt, decode_of_tag_done _ (eventTag_doneWord b), exec_done, eventData2_doneWord]

theorem issuedBank_of_trace {s t : State} {new : List OutEvent} (h : t.trace = s.trace ++ new) :
    issuedBank s t = new.findSome? transmitBank := by
  rw [issuedBank, h, List.drop_left]

theorem findSome?_transmitBank_drumEvents (s : State) : (drumEvents s).findSome? transmitBank = none := by
  rw [List.findSome?_eq_none_iff]
  intro x hx
  obtain ⟨v, l, rfl⟩ := exists_setTrigger_of_mem hx
  rfl

/-- From a free gate a STEP is its tick and the completion of whatever that tick sent (rule R71). -/
theorem runStep_of_free {s : State} (hbuilt : defect s.params = none) (hfree : s.busy = false) :
    ∃ b, runStep s = .next (transferDone b (tick s)) := by
  obtain ⟨-, ⟨hfree', -, htrace⟩ | ⟨out, -, word, -, -, htrace⟩⟩ := tick_of_free hfree
  · have hissued : issuedBank s (tick s) = none := by
      rw [issuedBank_of_trace htrace, findSome?_transmitBank_drumEvents]
    refine ⟨0#8, ?_⟩
    simp only [runStep, present_tickWord hbuilt, andThen, hissued, transferDone_of_free hfree']
  · have hissued : issuedBank s (tick s) = some (resolve s.params out).bank := by
      rw [List.append_assoc] at htrace
      rw [issuedBank_of_trace htrace, List.findSome?_append, findSome?_transmitBank_drumEvents]
      rfl
    refine ⟨BitVec.ofNat 8 (resolve s.params out).bank, ?_⟩
    simp only [runStep, present_tickWord hbuilt, andThen, hissued]
    exact present_doneWord (by rwa [tick_params]) _

/-! ### Scripts without a bare tick -/

/-- A built block that has sent everything and never been refused a write. -/
structure Calm (s : State) : Prop where
  built : defect s.params = none
  free : s.busy = false
  noFault : noOverlap s

/-- What a calm block answers with a calm block. -/
def KeepsCalm (f : State → Result) : Prop := ∀ s, Calm s → ∃ t, f s = .next t ∧ Calm t

theorem calm_of_effect {i : Instr} {s t : State} (h : Calm s) (heffect : Effect s i t) (htick : i ≠ .tick) :
    Calm t := by
  obtain ⟨hbuilt, hfree, hfault⟩ := h
  rw [noOverlap] at hfault
  cases heffect with
  | tick => exact absurd rfl htick
  | reset => exact ⟨hbuilt, rfl, rfl⟩
  | done b => exact ⟨by simpa using hbuilt, transferDone_busy b s, by simpa [noOverlap] using hfault⟩
  | unchanged | configured | armed | noteOn | noteOff =>
    exact ⟨by simpa using hbuilt, by simpa using hfree, by simpa [noOverlap] using hfault⟩

theorem keepsCalm_present {e : EventWord} (htag : eventTag e ≠ 1#2) : KeepsCalm (present e) := by
  intro s h
  obtain ⟨t, ht, heffect⟩ := exists_effect (decode s.params e) s
  refine ⟨t, (present_eq_exec h.built e).trans ht, calm_of_effect h heffect fun htick => htag ?_⟩
  rw [eventTag_of_decode htick, encode, eventTag_tickWord]

theorem keepsCalm_runStep : KeepsCalm runStep := by
  intro s h
  obtain ⟨b, hstep⟩ := runStep_of_free h.built h.free
  have hfaults : (tick s).overlapFaults = 0 := (tick_of_free h.free).1.trans h.noFault
  exact ⟨_, hstep, by simpa using h.built, transferDone_busy b _, by simpa [noOverlap] using hfaults⟩

theorem keepsCalm_times {f : State → Result} (hf : KeepsCalm f) (n : ℕ) : KeepsCalm (times f n) := by
  induction n with
  | zero => exact fun s h => ⟨s, rfl, h⟩
  | succ n ih =>
    intro s h
    obtain ⟨u, hu, hcalm⟩ := hf s h
    obtain ⟨t, ht, hcalm'⟩ := ih u hcalm
    exact ⟨t, by rw [times, hu]; exact ht, hcalm'⟩

theorem eventTag_messageWord (s d1 d2 : Byte) : eventTag (messageWord s d1 d2) = 0#2 := by
  rw [messageWord_eq, eventTag_dispatchWord]

theorem keepsCalm_message (s d1 d2 : Byte) : KeepsCalm (present (messageWord s d1 d2)) :=
  keepsCalm_present (by rw [eventTag_messageWord]; decide)

/-- Every timely statement keeps a calm block calm: it presents messages, completions and resets, or it steps. -/
theorem keepsCalm_runLine {l : ScriptLine} (h : timelyLine l = true) : KeepsCalm (runLine l) := by
  cases l with
  | tick => cases h
  | ticks n => cases h
  | midi st d1 d2 => exact keepsCalm_message st d1 d2
  | noteOn ch n v => exact keepsCalm_message _ n v
  | noteOff ch n v => exact keepsCalm_message _ n v
  | cc ch c v => exact keepsCalm_message _ c v
  | done b => exact keepsCalm_present (by rw [eventTag_doneWord]; decide)
  | reset => exact keepsCalm_present (by rw [eventTag_resetWord]; decide)
  | step => exact keepsCalm_runStep
  | steps n => exact keepsCalm_times keepsCalm_runStep n
  | cycle => exact fun s => keepsCalm_times keepsCalm_runStep s.params.k s
  | cycles n => exact fun s => keepsCalm_times (keepsCalm_times keepsCalm_runStep s.params.k) n s

theorem keepsCalm_runScript {ls : List ScriptLine} (h : ls.all timelyLine = true) : KeepsCalm (runScript ls) := by
  induction ls with
  | nil => exact fun s hcalm => ⟨s, rfl, hcalm⟩
  | cons l ls ih =>
    rw [List.all_cons, Bool.and_eq_true] at h
    intro s hcalm
    obtain ⟨u, hu, hcalm'⟩ := keepsCalm_runLine h.1 s hcalm
    obtain ⟨t, ht, hcalm''⟩ := ih h.2 u hcalm'
    exact ⟨t, by rw [runScript, hu]; exact ht, hcalm''⟩

/-- Settles O59: each line of the script finds a calm block and leaves one. -/
theorem timelyCompletionNeverOverlaps : Obligations.TimelyCompletionNeverOverlaps := by
  intro ls s hbuilt htimely hfree hfault
  obtain ⟨t, ht, hcalm⟩ := keepsCalm_runScript htimely s ⟨hbuilt, hfree, hfault⟩
  exact ⟨t, ht, hcalm.free, hcalm.noFault⟩

/-! ### The first two ticks -/

/-- With every countdown at 0 a tick issues no trigger event. -/
theorem drumEvents_eq_nil {s : State} (h : ∀ v, drumCountAt s v = 0) : drumEvents s = [] := by
  simp [drumEvents, h]

theorem drumCountAt_setBlock_blockReset (s : State) (v : ℕ) :
    drumCountAt (s.setBlock (blockReset s.params)) v = 0 := by
  simp [drumCountAt, blockReset]

theorem drumCountAt_tick_eq_zero {s : State} {v : ℕ} (h : drumCountAt s v = 0) : drumCountAt (tick s) v = 0 := by
  rw [drumCountAt_congr (tick_drumCount s), drumCountdown_countAt, h, ite_self]

theorem lookupNote_zero {table : List Nat} (h : NoteTableSound table) : lookupNote table 0#8 = 0 := by
  rw [lookupNote_eq_memRead h]
  exact memRead_eq_zero_of_outside h (.inl (by decide))

/-- Settles O56: after RESET the phases of the two ticks are 0 and 1, the stored note is 0 and no drum is running, so
the two STEPs send the tables' code at 0. -/
theorem firstTicksAfterResetSendCodeZero : Obligations.FirstTicksAfterResetSendCodeZero := by
  intro s u hbuilt hreset
  obtain rfl : s.setBlock (blockReset s.params) = u := Host.Outcome.next.inj ((exec_reset s).symm.trans hreset)
  set u := s.setBlock (blockReset s.params)
  obtain ⟨-, -, ⟨hA, hB⟩, hparams⟩ := defect_eq_none_iff_sound.mp hbuilt
  have hk := hparams.scalars.k
  obtain ⟨b, hstep⟩ := runStep_of_free (s := u) hbuilt rfl
  set u₁ := transferDone b (tick u) with hu₁
  have hparams₁ : u₁.params = s.params := by rw [hu₁, transferDone_params, tick_params]; rfl
  have hbuilt₁ : defect u₁.params = none := by rwa [hparams₁]
  have hfree₁ : u₁.busy = false := transferDone_busy b _
  have hp₁ : u₁.p = 1 := by
    rw [hu₁, transferDone_p, tick_p]
    exact Nat.mod_eq_of_lt (by omega : 0 + 1 < s.params.k)
  have hnote₁ : u₁.midi.note = 0#8 := by rw [hu₁, transferDone_midi, tick_midi]; rfl
  have hdrums (v : ℕ) : drumCountAt u₁ v = 0 := by
    rw [drumCountAt_congr (transferDone_drumCount b (tick u))]
    exact drumCountAt_tick_eq_zero (drumCountAt_setBlock_blockReset s v)
  obtain ⟨b', hstep'⟩ := runStep_of_free hbuilt₁ hfree₁
  have hsentA := tick_sent_of_pitchAPhase (s := u) rfl
  have hsentB := tick_sent_of_pitchBPhase hp₁
  rw [show lookupNote u.params.tableA u.midi.note = 0 from lookupNote_zero hA] at hsentA
  rw [hparams₁, hnote₁, lookupNote_zero hB] at hsentB
  refine ⟨tick u, transferDone b' (tick u₁), ?_, exec_tick u, hsentA, ?_, transferDone_busy b' _, ?_⟩
  · rw [runScript, runLine, hstep]
    show andThen (runStep u₁) _ = _
    rw [hstep']
    rfl
  · obtain ⟨-, hsent, -⟩ := hsentB
    obtain ⟨-, -, htrace⟩ := hsent hfree₁
    rw [transferDone_trace, htrace, drumEvents_eq_nil hdrums, List.append_nil, hparams₁, hu₁, transferDone_trace]
    rfl
  · rw [transferDone_overlapFaults, (tick_of_free hfree₁).1, hu₁, transferDone_overlapFaults,
      (tick_of_free (s := u) rfl).1]
    rfl

end Sys2Proof.Proofs.ScriptRuns
end
